-- ==== Sys2Proof/Word.lean ====
section
/-!
DEFINITION. The plainest types of the model: a received character and a line of text. Everything else the manual
counts is a whole number in a unit of 00_scope.md section 0.4, held as `Nat`, or as `Int` where section 0.5 says signed.
-/
namespace Sys2Proof

/-- One character as the serial line carries it: 8 data bits (00_scope.md, 0.8). -/
abbrev Byte := BitVec 8

/-- A run of characters: the text of a request line, one of its words, or a reply (11.1). -/
abbrev Text := List Char

end Sys2Proof
end

