-- ==== Sys2Proof/Syntax.lean ====
section
/-!
DEFINITION. The names of the yard's parts (00_scope.md, 0.3) and the ONE inductive of commands, one constructor per row of
spec/opcode_table.json. A request row carries the argument words of its line as they were received, so that every refused
form of the request is a term too; a field row carries what the scan bus delivers; an expiry row names the timer that ran out.
-/
namespace Sys2Proof

/-- The six telescopic gasholders (0.3). -/
inductive HolderId where
  | h1 | h2 | h3 | h4 | h5 | h6
  deriving DecidableEq, Repr

/-- Which of a holder's two valves: Hn-IN or Hn-OUT (0.3). -/
inductive Side where
  | inlet | outlet
  deriving DecidableEq, Repr

/-- The four districts (0.3). -/
inductive DistrictId where
  | d1 | d2 | d3 | d4
  deriving DecidableEq, Repr

/-- The five paths: MAKE and the four district paths (0.3, R64). -/
inductive PathId where
  | make
  | dist (d : DistrictId)
  deriving DecidableEq, Repr

/-- The six meters, and the six accounts they feed (0.3, R115). -/
inductive MeterId where
  | mc | mw | m1 | m2 | m3 | m4
  deriving DecidableEq, Repr

/-- A reported contact (2.1, 9.1). -/
inductive Contact where
  | made | broken
  deriving DecidableEq, Repr

/-- The two far-point gauges of a district (0.3). -/
inductive GaugeId where
  | duty | check
  deriving DecidableEq, Repr

/-- The commands of the part: one constructor for each row of spec/opcode_table.json. `args` are the words of the request
line after its verb (and, for the rows that are one form of a verb, after or before the words that fix the form: CLOCK START,
VALVE … CLEAR, METER DEFAULT, BOOST CLEAR). A field report's value is absent when the transmitter sends its no-value mark. -/
inductive Instr where
  -- resets and the line
  | coldStart (baudHigh : Bool)
  | characterReceived (c : Byte)
  | gapTimerExpiry
  | replySent
  | warmRestart
  | busyWindowEnd
  | saveComplete
  | requestBusy (verb : Text) (args : List Text)
  | unknownVerb (verb : Text) (args : List Text)
  -- requests
  | yard (args : List Text)
  | grp (args : List Text)
  | clr (args : List Text)
  | attn (args : List Text)
  | mode (args : List Text)
  | clock (args : List Text)
  | clockStart (args : List Text)
  | restart (args : List Text)
  | save (args : List Text)
  | geom (args : List Text)
  | stops (args : List Text)
  | service (args : List Text)
  | holder (args : List Text)
  | stroke (args : List Text)
  | valve (args : List Text)
  | valveClear (args : List Text)
  | load (args : List Text)
  | prove (args : List Text)
  | endOrder (args : List Text)
  | drop (args : List Text)
  | orders (args : List Text)
  | fin (args : List Text)
  | prio (args : List Text)
  | path (args : List Text)
  | sched (args : List Text)
  | fog (args : List Text)
  | govern (args : List Text)
  | dist (args : List Text)
  | boost (args : List Text)
  | boostClear
  | booster (args : List Text)
  | meter (args : List Text)
  | meterSet (args : List Text)
  | meterDefault (args : List Text)
  | cv (args : List Text)
  | acct (args : List Text)
  | day
  | dayAcct (args : List Text)
  | bal (args : List Text)
  -- the clock and its boundaries
  | clockSecond
  | intervalEnd
  | hourEnd
  | dayEnd
  -- field reports and timer expiries
  | heightReport (h : HolderId) (value : Option Int)
  | lossTimerExpiry (h : HolderId)
  | holderTemperatureReport (h : HolderId) (value : Option Int)
  | holderTemperatureStale (h : HolderId)
  | valveContactReport (h : HolderId) (side : Side) (openC shutC : Contact)
  | strokeTimerExpiry (h : HolderId) (side : Side)
  | provingTimerExpiry (h : HolderId)
  | pulseReport (m : MeterId) (pulses : Byte)
  | lineGaugeReport (m : MeterId) (value : Option Int)
  | lineTemperatureReport (m : MeterId) (value : Option Int)
  | barometerReport (value : Option Int)
  | farPointGaugeReport (d : DistrictId) (g : GaugeId) (value : Option Int)
  | periodEnd (d : DistrictId)
  | boosterContactReport (c : Contact)
  | runUpExpiry
  | alignmentExpiry
  | runDownExpiry
  | resetAsserted
  deriving DecidableEq, Repr

end Sys2Proof
end

