-- ==== Sys2Proof/Config.lean ====
section
/-!
DEFINITION. What the part fixes once and no request changes: the figures the rules name and the factory values of the
commissioning store (10.6). The manual gives every one of them, so none is a free value.
-/
namespace Sys2Proof.Config

/-- The cup margin, 3 in. (R11). -/
def cupMargin : Nat := 3
/-- A holder at this height or less is landed (R12). -/
def landedHeight : Nat := 2
/-- A height report may exceed the total travel by this much (R6). -/
def heightOverTravel : Nat := 12
/-- The loss timer, in seconds (R8). -/
def lossSeconds : Nat := 30
/-- The age, in seconds, past which a holder temperature becomes absent: 10 min (R17). -/
def temperatureSeconds : Nat := 600
/-- The limit of the trailing movement either way, holder ft³ (R16). -/
def trailingLimit : Int := 99999999
/-- The capacity of the finished list (R57). -/
def finishedCapacity : Nat := 16
/-- The limit of the pulse count and of every reading, interval and run count (R116, R117, R118, R120, R145). -/
def countLimit : Nat := 65535
/-- The highest gas-day number; 1 follows it (R172). -/
def lastGasDay : Nat := 65535
/-- The barometer value that stands in while none has been received (R118, R119). -/
def barometerStandIn : Nat := 3000
/-- The greatest effective setpoint (R138). -/
def setpointLimit : Nat := 150
/-- The period ends after which UNORDERED is set (R145). -/
def unorderedRunLimit : Nat := 10
/-- The release margin, tenths (8.1, R152). -/
def releaseMargin : Nat := 10
/-- The boosted period ends below the release level that make a release (R152). -/
def releaseRunLimit : Nat := 5
/-- The run-down time of the booster, in seconds (9.1, R161). -/
def runDownSeconds : Nat := 60
/-- The longest time a save takes, in seconds (R177). -/
def saveSeconds : Nat := 2
/-- The most characters a request text holds (11.1, R181). -/
def textLimit : Nat := 72
/-- The greatest change of a set clock that is a trim, in seconds (R174). -/
def trimSeconds : Int := 300
/-- The seconds of a day (10.4). -/
def daySeconds : Nat := 86400
/-- The seconds of a correction interval, six minutes (7.5). -/
def intervalSeconds : Nat := 360
/-- The seconds of an hour. -/
def hourSeconds : Nat := 3600
/-- The attention mask after either reset (11.7). -/
def resetMask : BitVec 8 := 0xFF#8
/-- Characters a second at a strapped rate: 10 bit times a character (8 data bits, no parity, 1 stop bit, and the start
bit; 00_scope.md, 0.8). DEDUCED: the manual states the bit rates and the format, not the start bit. Log entry 4. -/
def charsPerSecond (baudHigh : Bool) : Nat := if baudHigh then 960 else 240

end Sys2Proof.Config
end

