-- ==== Sys2Proof/Machine/Tables.lean ====
section
/-!
DEFINITION. One record per holder, valve, path, district and meter: a table is a structure with one field per name of the
yard, read by `get` and written by `set`. The lists `all` give the names in the order the manual walks them.
-/
namespace Sys2Proof

/-- H1 to H6 in ascending order. -/
def HolderId.all : List HolderId := [.h1, .h2, .h3, .h4, .h5, .h6]
/-- IN, then OUT: the reading order of 11.5. -/
def Side.all : List Side := [.inlet, .outlet]
/-- The other valve of the same holder (R24). -/
def Side.sister : Side → Side
  | .inlet => .outlet
  | .outlet => .inlet
/-- D1 to D4 in ascending order. -/
def DistrictId.all : List DistrictId := [.d1, .d2, .d3, .d4]
/-- MAKE, then D1 to D4. -/
def PathId.all : List PathId := [.make, .dist .d1, .dist .d2, .dist .d3, .dist .d4]
/-- MC, MW, M1 to M4. -/
def MeterId.all : List MeterId := [.mc, .mw, .m1, .m2, .m3, .m4]

/-- The search order of a ROTATING path whose last served holder is `h`: the holder after it first, wrapping from H6 to H1,
the last served holder itself last (R69). -/
def HolderId.rotation : HolderId → List HolderId
  | .h1 => [.h2, .h3, .h4, .h5, .h6, .h1]
  | .h2 => [.h3, .h4, .h5, .h6, .h1, .h2]
  | .h3 => [.h4, .h5, .h6, .h1, .h2, .h3]
  | .h4 => [.h5, .h6, .h1, .h2, .h3, .h4]
  | .h5 => [.h6, .h1, .h2, .h3, .h4, .h5]
  | .h6 => [.h1, .h2, .h3, .h4, .h5, .h6]

/-- The valve a path uses at a holder: the inlet on MAKE, the outlet on D1 to D4 (R64). -/
def PathId.side : PathId → Side
  | .make => .inlet
  | .dist _ => .outlet

/-- One value for each holder. -/
structure HolderTable (α : Type) where
  h1 : α
  h2 : α
  h3 : α
  h4 : α
  h5 : α
  h6 : α
  deriving DecidableEq, Repr

/-- One value for each of a holder's two valves. -/
structure Sides (α : Type) where
  inlet : α
  outlet : α
  deriving DecidableEq, Repr

/-- One value for each district. -/
structure DistrictTable (α : Type) where
  d1 : α
  d2 : α
  d3 : α
  d4 : α
  deriving DecidableEq, Repr

/-- One value for each path. -/
structure PathTable (α : Type) where
  make : α
  dist : DistrictTable α
  deriving DecidableEq, Repr

/-- One value for each meter. -/
structure MeterTable (α : Type) where
  mc : α
  mw : α
  m1 : α
  m2 : α
  m3 : α
  m4 : α
  deriving DecidableEq, Repr

def HolderTable.get {α : Type} (t : HolderTable α) : HolderId → α
  | .h1 => t.h1
  | .h2 => t.h2
  | .h3 => t.h3
  | .h4 => t.h4
  | .h5 => t.h5
  | .h6 => t.h6

def HolderTable.set {α : Type} (t : HolderTable α) (h : HolderId) (a : α) : HolderTable α :=
  match h with
  | .h1 => { t with h1 := a }
  | .h2 => { t with h2 := a }
  | .h3 => { t with h3 := a }
  | .h4 => { t with h4 := a }
  | .h5 => { t with h5 := a }
  | .h6 => { t with h6 := a }

def HolderTable.fill {α : Type} (a : α) : HolderTable α := ⟨a, a, a, a, a, a⟩

def HolderTable.map {α β : Type} (f : α → β) (t : HolderTable α) : HolderTable β :=
  ⟨f t.h1, f t.h2, f t.h3, f t.h4, f t.h5, f t.h6⟩

def Sides.get {α : Type} (t : Sides α) : Side → α
  | .inlet => t.inlet
  | .outlet => t.outlet

def Sides.set {α : Type} (t : Sides α) (side : Side) (a : α) : Sides α :=
  match side with
  | .inlet => { t with inlet := a }
  | .outlet => { t with outlet := a }

def DistrictTable.get {α : Type} (t : DistrictTable α) : DistrictId → α
  | .d1 => t.d1
  | .d2 => t.d2
  | .d3 => t.d3
  | .d4 => t.d4

def DistrictTable.set {α : Type} (t : DistrictTable α) (d : DistrictId) (a : α) : DistrictTable α :=
  match d with
  | .d1 => { t with d1 := a }
  | .d2 => { t with d2 := a }
  | .d3 => { t with d3 := a }
  | .d4 => { t with d4 := a }

def DistrictTable.fill {α : Type} (a : α) : DistrictTable α := ⟨a, a, a, a⟩

def DistrictTable.map {α β : Type} (f : α → β) (t : DistrictTable α) : DistrictTable β :=
  ⟨f t.d1, f t.d2, f t.d3, f t.d4⟩

def PathTable.get {α : Type} (t : PathTable α) : PathId → α
  | .make => t.make
  | .dist d => t.dist.get d

def PathTable.set {α : Type} (t : PathTable α) (p : PathId) (a : α) : PathTable α :=
  match p with
  | .make => { t with make := a }
  | .dist d => { t with dist := t.dist.set d a }

def PathTable.fill {α : Type} (a : α) : PathTable α := ⟨a, DistrictTable.fill a⟩

def PathTable.map {α β : Type} (f : α → β) (t : PathTable α) : PathTable β := ⟨f t.make, t.dist.map f⟩

def MeterTable.get {α : Type} (t : MeterTable α) : MeterId → α
  | .mc => t.mc
  | .mw => t.mw
  | .m1 => t.m1
  | .m2 => t.m2
  | .m3 => t.m3
  | .m4 => t.m4

def MeterTable.set {α : Type} (t : MeterTable α) (m : MeterId) (a : α) : MeterTable α :=
  match m with
  | .mc => { t with mc := a }
  | .mw => { t with mw := a }
  | .m1 => { t with m1 := a }
  | .m2 => { t with m2 := a }
  | .m3 => { t with m3 := a }
  | .m4 => { t with m4 := a }

def MeterTable.fill {α : Type} (a : α) : MeterTable α := ⟨a, a, a, a, a, a⟩

/-- The table whose entry for `m` is `f m`. -/
def MeterTable.tabulate {α : Type} (f : MeterId → α) : MeterTable α :=
  ⟨f .mc, f .mw, f .m1, f .m2, f .m3, f .m4⟩

end Sys2Proof
end

