-- ==== Sys2Proof/Machine/State.lean ====
section
/-!
DEFINITION. The state of the part: every record the manual gives it, block by block (0.1), as plain data, with the queue of
commands that wait. Settings held in the commissioning store stand together in `Settings`, so that the working copy and the
store's contents are two values of one type (R176). The reasons a step can stop, and the state after reset.
-/
namespace Sys2Proof.Machine

/-! ### Names of states and causes -/

/-- Yard modes (R169). -/
inductive Mode where
  | survey | run | hold
  deriving DecidableEq, Repr

/-- The service state of a holder (1.1). -/
inductive Service where
  | inService | outOfService
  deriving DecidableEq, Repr

/-- How a path chooses among eligible holders (R64, R69). -/
inductive Priority where
  | fixed | rotating
  deriving DecidableEq, Repr

/-- Where a valve stroke came from (2.1). -/
inductive Origin where
  | commanded | moved
  deriving DecidableEq, Repr

/-- The cause of a valve fault (2.1). -/
inductive ValveFault where
  | stroke | travel | both
  deriving DecidableEq, Repr

/-- The position of a valve as the part holds it (2.1); origin and fault cause are present exactly in the states that
carry them. -/
inductive ValveState where
  | unknown
  | closed
  | opening (origin : Origin)
  | opened
  | closing (origin : Origin)
  | fault (cause : ValveFault)
  deriving DecidableEq, Repr

/-- The command given to a valve motor (2.1). -/
inductive Drive where
  | driveOpen | driveClose | rest
  deriving DecidableEq, Repr

/-- What an order does (R39). -/
inductive OrderKind where
  | fill | draw | prove
  deriving DecidableEq, Repr

/-- What a transfer order does at its count (R48). -/
inductive AtCount where
  | hand | stand
  deriving DecidableEq, Repr

/-- The states of an order (R38). -/
inductive OrderState where
  | pending | ready | starting | running | overrun | proving
  deriving DecidableEq, Repr

/-- A forced end that waits on the path arbiters (R39, R50); also a path's outgoing cause (R64). -/
inductive EndDue where
  | ended | topped | lowed | lost
  deriving DecidableEq, Repr

/-- The cause in a finished record (R56). -/
inductive Cause where
  | ended | topped | lowed | lost | valve | hold | handed | continued | pass | leak | incomplete
  deriving DecidableEq, Repr

/-- The end cause that an end due becomes (R50, R51). -/
def EndDue.cause : EndDue → Cause
  | .ended => .ended
  | .topped => .topped
  | .lowed => .lowed
  | .lost => .lost

/-- Whether an order stands behind a grant (R64). -/
inductive GrantKind where
  | ordered | adopted
  deriving DecidableEq, Repr

/-- The stage of a changeover (R64). -/
inductive Stage where
  | first | second
  deriving DecidableEq, Repr

/-- The outcome of a pair evaluation (R142); absence, before the first evaluation, is an absent field. -/
inductive PairState where
  | pair | singleDuty | singleCheck | disagree | none
  deriving DecidableEq, Repr

/-- The condition found at a period end (R143). -/
inductive Condition where
  | low | band | high | unordered
  deriving DecidableEq, Repr

/-- A district's standing with booster control (8.1). -/
inductive RequestState where
  | none | queued | granted
  deriving DecidableEq, Repr

/-- The cause of a booster fault (9.1). -/
inductive BoosterFault where
  | runUp | contact
  deriving DecidableEq, Repr

/-- The states of the booster (9.1); the fault cause is present exactly in FAULT. -/
inductive BoosterState where
  | off | runUp | running | aligning | runDown
  | fault (cause : BoosterFault)
  deriving DecidableEq, Repr

/-- What last wrote the yard barometer value (7.4). -/
inductive BarometerSource where
  | reading | interval
  deriving DecidableEq, Repr

/-- How a gas day was opened (7.6). -/
inductive Opened where
  | boundary | short
  deriving DecidableEq, Repr

/-- The last reset (R178, R179). -/
inductive ResetKind where
  | cold | warm
  deriving DecidableEq, Repr

/-- The receiver, with what it holds of the line being received (R181). -/
inductive Receiver where
  | idle
  | text (held : Text)
  | digits (held : Text) (digits : Text)
  | skip
  deriving DecidableEq, Repr

/-- The cause of a discard (R183). -/
inductive Discard where
  | check | long | char | star | gap | stuck | overlap
  deriving DecidableEq, Repr

/-- The outcome codes of 0.5. -/
inductive OutcomeCode where
  | ok | cl | rm | rs | ra | ru | busy
  deriving DecidableEq, Repr

/-! ### Settings held in the commissioning store (10.6) -/

/-- One lift: travel t_k, volume per inch v_k and pressure step p_k (1.1). -/
structure Lift where
  travel : Nat
  perInch : Nat
  step : Nat
  deriving DecidableEq, Repr

/-- The top and low stop, present together (R2). -/
structure Stops where
  top : Nat
  low : Nat
  deriving DecidableEq, Repr

/-- The setting part of a holder, with the stroke limit of its two valves (1.1, 2.1). The lift count is the list's length,
the crown lift first. -/
structure HolderSettings where
  geometry : Option (List Lift)
  stops : Option Stops
  service : Service
  strokeLimit : Nat
  deriving DecidableEq, Repr

/-- One point of a schedule (R138). -/
structure SchedulePoint where
  minute : Nat
  setpoint : Nat
  deriving DecidableEq, Repr

/-- The governing numbers of a district (8.1). -/
structure Governing where
  band : Nat
  step : Nat
  minimum : Nat
  maximum : Nat
  drop : Nat
  fallback : Nat
  period : Nat
  tolerance : Nat
  deriving DecidableEq, Repr

/-- The setting part of a district (8.1). -/
structure DistrictSettings where
  schedule : List SchedulePoint
  governing : Governing
  deriving DecidableEq, Repr

/-- The booster's settings (9.1). -/
structure BoosterSettings where
  enabled : Bool
  head : Nat
  runUp : Nat
  alignment : Nat
  deriving DecidableEq, Repr

/-- Every setting the commissioning store holds (10.6). -/
structure Settings where
  holders : HolderTable HolderSettings
  pulse : MeterTable Nat
  cv : MeterTable Nat
  lineGauge : Nat
  lineTemperature : Nat
  districts : DistrictTable DistrictSettings
  booster : BoosterSettings
  priority : PathTable Priority
  startHour : Nat
  deriving DecidableEq, Repr

/-- The factory values that a BLANK store gives (10.6). -/
def Settings.factory : Settings where
  holders := .fill { geometry := none, stops := none, service := .outOfService, strokeLimit := 90 }
  pulse := .fill 10
  cv := .fill 500
  lineGauge := 50
  lineTemperature := 60
  districts := .fill
    { schedule := [⟨0, 40⟩]
      governing := { band := 3, step := 2, minimum := 15, maximum := 100, drop := 4, fallback := 40, period := 60,
                     tolerance := 3 } }
  booster := { enabled := false, head := 40, runUp := 90, alignment := 30 }
  priority := .fill .fixed
  startHour := 6

/-! ### Live records -/

/-- The yard clock: a gas-day number and the seconds of the day (10.4). -/
structure ClockTime where
  day : Nat
  tod : Nat
  deriving DecidableEq, Repr

/-- A standard stock with the clock time of its computation (1.1). -/
structure LastStock where
  stock : Nat
  time : Option ClockTime
  deriving DecidableEq, Repr

/-- The live and movement parts of a holder record (1.1). `lossTimer` is the seconds remaining while it runs. -/
structure HolderRec where
  height : Option Nat
  readingTime : Option ClockTime
  lossTimer : Option Nat
  cupped : List Bool
  carried : Option Nat
  nominal : Nat
  volume : Option Nat
  temperature : Option Nat
  temperatureAge : Nat
  atTop : Bool
  atLow : Bool
  lost : Bool
  lastStock : Option LastStock
  trailing : Int
  deriving DecidableEq, Repr

/-- A valve record (2.1); `timer` is the stroke timer's seconds remaining while it runs. -/
structure ValveRec where
  state : ValveState
  openC : Option Contact
  shutC : Option Contact
  drive : Drive
  timer : Option Nat
  lastChange : Option ClockTime
  deriving DecidableEq, Repr

/-- The fields of a FILL or DRAW order (R39). The kind follows from the path: FILL on MAKE, DRAW on a district (R40). -/
structure Transfer where
  path : PathId
  quantity : Nat
  atCount : AtCount
  tallyStep : Option Nat
  moved : Nat
  toGo : Nat
  overrun : Nat
  backflow : Nat
  tallyCount : Nat
  endDue : Option EndDue
  outgoing : Bool
  deriving DecidableEq, Repr

/-- The fields of a PROVE order (R39, R89); `timer` is the proving timer's seconds remaining. -/
structure Proving where
  tolerance : Nat
  period : Nat
  startStock : Option Nat
  timer : Option Nat
  deriving DecidableEq, Repr

/-- What an order is of. -/
inductive OrderBody where
  | transfer (t : Transfer)
  | proving (p : Proving)
  deriving DecidableEq, Repr

/-- An order record (R39). -/
structure Order where
  tag : Nat
  state : OrderState
  start : Option ClockTime
  body : OrderBody
  deriving DecidableEq, Repr

/-- The two order slots of a holder (R38). -/
structure Slots where
  active : Option Order
  followOn : Option Order
  deriving DecidableEq, Repr

/-- A finished record (R56). -/
structure Finished where
  tag : Nat
  holder : HolderId
  kind : OrderKind
  path : Option PathId
  quantity : Nat
  cause : Cause
  moved : Nat
  overrun : Nat
  backflow : Nat
  tallyCount : Nat
  start : Option ClockTime
  ended : Option ClockTime
  startStock : Option Nat
  endStock : Option Nat
  loss : Option Int
  deriving DecidableEq, Repr

/-- A granted holder with its grant kind (R64). -/
structure Grant where
  holder : HolderId
  kind : GrantKind
  deriving DecidableEq, Repr

/-- The state of a path with the holders it carries (R64): the granted holder and kind, and in CHANGEOVER the stage, the
outgoing holder and the outgoing cause. -/
inductive PathState where
  | empty
  | granted (g : Grant)
  | changeover (stage : Stage) (g : Option Grant) (outgoing : HolderId) (cause : Option EndDue)
  deriving DecidableEq, Repr

/-- A path record (R64); the priority mode is a setting. -/
structure PathRec where
  state : PathState
  lastServed : Option HolderId
  unserved : Bool
  deriving DecidableEq, Repr

/-- A far-point gauge's last valid reading and its age in seconds (R141). -/
structure Gauge where
  value : Nat
  age : Nat
  deriving DecidableEq, Repr

/-- The live part of a district record (8.1). -/
structure DistrictRec where
  fogLift : Nat
  loading : Nat
  periodTimer : Nat
  duty : Option Gauge
  check : Option Gauge
  pair : Option PairState
  reading : Option Nat
  condition : Option Condition
  unorderedRun : Nat
  supplying : Option HolderId
  boosted : Bool
  releaseRun : Nat
  request : RequestState
  deriving DecidableEq, Repr

/-- The booster record (9.1); its settings stand in `Settings`. `start` is START when set and STOP when clear. -/
structure BoosterRec where
  state : BoosterState
  granted : Option DistrictId
  boosted : Option DistrictId
  withdrawalPending : Bool
  queue : List DistrictId
  timer : Option Nat
  contact : Option Contact
  start : Bool
  selector : Option DistrictId
  deriving DecidableEq, Repr

/-- The last credit of a meter (7.1). -/
structure Credit where
  ended : ClockTime
  pulses : Nat
  pulseValue : Nat
  gauge : Nat
  temperature : Nat
  barometer : Nat
  factor : Nat
  credited : Nat
  estimated : Bool
  saturated : Bool
  deriving DecidableEq, Repr

/-- A meter record (7.1); the pulse value is a setting. -/
structure MeterRec where
  pulses : Nat
  saturated : Bool
  gaugeSum : Nat
  gaugeCount : Nat
  tempSum : Nat
  tempCount : Nat
  lastG : Option Nat
  lastT : Option Nat
  residue : Nat
  lastCredit : Option Credit
  deriving DecidableEq, Repr

/-- The barometer record (7.4); the source is present with the value. -/
structure Barometer where
  value : Option (Nat × BarometerSource)
  sum : Nat
  count : Nat
  deriving DecidableEq, Repr

/-- A peak so far: slot and figure (R121). -/
structure Peak where
  slot : Fin 24
  figure : Nat
  deriving DecidableEq, Repr

/-- The day's part of an account (7.6). -/
structure DayAccount where
  total : Nat
  therms : Nat
  slots : Vector Nat 24
  peak : Option Peak
  estimated : Nat
  saturated : Nat
  deriving DecidableEq, Repr

/-- The current gas day (7.6). -/
structure DayRec where
  day : Nat
  opened : Opened
  openStock : Option Nat
  openStockTime : Option ClockTime
  openMark : Bool
  accounts : MeterTable DayAccount
  deriving DecidableEq, Repr

/-- The account part of the closed-day record (R127). -/
structure ClosedAccount where
  total : Nat
  therms : Nat
  slots : Vector Nat 24
  peakHour : Fin 24
  estimated : Nat
  saturated : Nat
  cv : Nat
  deriving DecidableEq, Repr

/-- The closed-day record (R127). -/
structure ClosedDay where
  day : Nat
  closeTime : ClockTime
  make : Nat
  sendOut : Nat
  openStock : Option Nat
  closeStock : Nat
  change : Option Int
  balance : Option Int
  incomplete : Bool
  short : Bool
  clockJump : Bool
  accounts : MeterTable ClosedAccount
  taken : Bool
  deriving DecidableEq, Repr

/-- The meter accounts block (7.1 to 7.7). `btu` is each account's Btu residue; `gathered` says whether a pulse report or a
valid line or barometer reading has been taken since the last interval end (R129). -/
structure Accounts where
  meters : MeterTable MeterRec
  barometer : Barometer
  btu : MeterTable Nat
  gathered : Bool
  day : Option DayRec
  closed : Option ClosedDay
  deriving DecidableEq, Repr

/-- A save in progress: the copy taken at the request and the seconds left of the 2 s it may take (R177). -/
structure SaveInHand where
  copy : Settings
  left : Nat
  deriving DecidableEq, Repr

/-- The yard supervisor, and the two pins it reads: RESET held low, and BAUD as read at the cold start (10, 0.8). -/
structure Yard where
  mode : Mode
  clock : Option ClockTime
  lastReset : ResetKind
  unsaved : Bool
  save : Option SaveInHand
  busyWindow : Bool
  resetHeld : Bool
  baudHigh : Bool
  deriving DecidableEq, Repr

/-- The reply being sent (R186); `left` is how many of its characters are still to be sent. -/
structure Reply where
  outcome : OutcomeCode
  summary : BitVec 8
  verb : Text
  data : List Text
  left : Nat
  deriving DecidableEq, Repr

/-- The last refusal: the verb as received and the outcome (R185). -/
structure LastRefusal where
  verb : Text
  outcome : OutcomeCode
  deriving DecidableEq, Repr

/-- The station line (chapter 11). -/
structure Line where
  receiver : Receiver
  gapRunning : Bool
  inHand : Option Text
  reply : Option Reply
  lastDiscard : Option Discard
  lastRefusal : Option LastRefusal
  mask : BitVec 8
  deriving DecidableEq, Repr

/-! ### Sticky flags, in the reading order of 11.5 -/

structure HolderFlags where
  top : Bool
  low : Bool
  lost : Bool
  cup : Bool
  deriving DecidableEq, Repr

structure ValveFlags where
  fault : Bool
  moved : Bool
  deriving DecidableEq, Repr

structure OrderFlags where
  promoted : Bool
  tally : Bool
  deriving DecidableEq, Repr

structure PathFlags where
  unserved : Bool
  adopted : Bool
  deriving DecidableEq, Repr

structure DistrictFlags where
  unordered : Bool
  single : Bool
  clamped : Bool
  deriving DecidableEq, Repr

structure MeterFlags where
  estimated : Bool
  saturated : Bool
  deriving DecidableEq, Repr

structure YardFlags where
  cold : Bool
  warm : Bool
  mode : Bool
  line : Bool
  fault : Bool
  deriving DecidableEq, Repr

/-- The sticky flags of the eight groups (11.5). The level flags FINISHED, DAY and UNSET are computed (R187). -/
structure StickyFlags where
  holders : HolderTable HolderFlags
  valves : HolderTable (Sides ValveFlags)
  overflow : Bool
  orders : HolderTable OrderFlags
  paths : PathTable PathFlags
  districts : DistrictTable DistrictFlags
  boosterFault : Bool
  boosterGrant : Bool
  overwritten : Bool
  meters : MeterTable MeterFlags
  yard : YardFlags
  deriving DecidableEq, Repr

/-- Every sticky flag clear. -/
def StickyFlags.clear : StickyFlags where
  holders := .fill ⟨false, false, false, false⟩
  valves := .fill ⟨⟨false, false⟩, ⟨false, false⟩⟩
  overflow := false
  orders := .fill ⟨false, false⟩
  paths := .fill ⟨false, false⟩
  districts := .fill ⟨false, false, false⟩
  boosterFault := false
  boosterGrant := false
  overwritten := false
  meters := .fill ⟨false, false⟩
  yard := ⟨false, false, false, false, false⟩

/-- The state of the part, and the queue of commands that wait, first in, first out. -/
structure State where
  settings : Settings
  store : Option Settings
  yard : Yard
  holders : HolderTable HolderRec
  valves : HolderTable (Sides ValveRec)
  slots : HolderTable Slots
  finished : List Finished
  paths : PathTable PathRec
  districts : DistrictTable DistrictRec
  booster : BoosterRec
  accounts : Accounts
  line : Line
  flags : StickyFlags
  pending : List Instr
  deriving DecidableEq, Repr

/-- The reasons a step faults: there are none. The manual gives every command an effect in every state, so no meaning of
this model stops (safe: nothing is cut short). -/
inductive Fault where
  deriving DecidableEq, Repr

/-- The reasons a step is refused. -/
inductive Refusal where
  /-- Raised by `exec` alone, for a row of the table with no meaning yet; no arm raises it now. Safe: the model stops. -/
  | notModelled (mnemonic : String)
  deriving DecidableEq, Repr

/-! ### Values after a cold start -/

/-- The live part of a holder after a cold start (1.12): the loss timer runs exactly with a geometry; the cupped flags, one
for each boundary, are clear. -/
def HolderRec.cold (c : HolderSettings) : HolderRec where
  height := none
  readingTime := none
  lossTimer := c.geometry.map fun _ => Config.lossSeconds
  cupped := match c.geometry with
    | none => []
    | some g => List.replicate (g.length - 1) false
  carried := none
  nominal := 0
  volume := none
  temperature := none
  temperatureAge := 0
  atTop := false
  atLow := false
  lost := false
  lastStock := none
  trailing := 0

/-- A valve record after a cold start (2.9). -/
def ValveRec.cold : ValveRec where
  state := .unknown
  openC := none
  shutC := none
  drive := .rest
  timer := none
  lastChange := none

/-- A district record after a cold start (8.9). -/
def DistrictRec.cold (c : DistrictSettings) : DistrictRec where
  fogLift := 0
  loading := c.governing.fallback
  periodTimer := c.governing.period
  duty := none
  check := none
  pair := none
  reading := none
  condition := none
  unorderedRun := 0
  supplying := none
  boosted := false
  releaseRun := 0
  request := .none

/-- The booster record after a cold start (9.7). -/
def BoosterRec.cold : BoosterRec where
  state := .off
  granted := none
  boosted := none
  withdrawalPending := false
  queue := []
  timer := none
  contact := none
  start := false
  selector := none

/-- A meter record after a cold start (7.10). -/
def MeterRec.cold : MeterRec where
  pulses := 0
  saturated := false
  gaugeSum := 0
  gaugeCount := 0
  tempSum := 0
  tempCount := 0
  lastG := none
  lastT := none
  residue := 0
  lastCredit := none

/-- The meter accounts block after a cold start (7.10). -/
def Accounts.cold : Accounts where
  meters := .fill .cold
  barometer := { value := none, sum := 0, count := 0 }
  btu := .fill 0
  gathered := false
  day := none
  closed := none

/-- The station line after either reset (11.7). -/
def Line.afterReset : Line where
  receiver := .idle
  gapRunning := false
  inHand := none
  reply := none
  lastDiscard := none
  lastRefusal := none
  mask := Config.resetMask

/-- The part right after a cold start from a store with these contents (`none` when BLANK), with the BAUD strap as read
(R178, R21, R36, R62, R87, R135, R155, R167, R191). -/
def State.afterColdStart (store : Option Settings) (baudHigh : Bool) (pending : List Instr) : State where
  settings := store.getD .factory
  store := store
  yard :=
    { mode := .survey, clock := none, lastReset := .cold, unsaved := false, save := none, busyWindow := false,
      resetHeld := false, baudHigh := baudHigh }
  holders := (store.getD .factory).holders.map .cold
  valves := .fill ⟨.cold, .cold⟩
  slots := .fill ⟨none, none⟩
  finished := []
  paths := .fill { state := .empty, lastServed := none, unserved := false }
  districts := (store.getD .factory).districts.map .cold
  booster := .cold
  accounts := .cold
  line := .afterReset
  flags := { StickyFlags.clear with yard := ⟨true, false, false, false, false⟩ }
  pending := pending

/-- The part right after its first power-on: a cold start from a BLANK store, with no command waiting. The BAUD strap is
taken as low (DESIGN CHOICE, log entry 1). -/
def State.reset : State := State.afterColdStart none false []

end Sys2Proof.Machine
end

