-- ==== Sys2Proof/Machine/Operands.lean ====
section
/-!
DEFINITION. The words of the station line, both ways (11.1): how a word of a request is read as a name, a number or a time,
and how an item of a reply is written. Every request's arguments are read here and every reply's data are built from here.
-/
namespace Sys2Proof.Machine

/-! ### Numbers, hexadecimal digits and times -/

/-- A number in decimal digits, as a reply writes it (11.1). -/
def decimal (n : Nat) : Text := Nat.toDigits 10 n

/-- A signed figure: a leading minus below zero (11.1). -/
def signed (i : Int) : Text := if i < 0 then '-' :: decimal i.natAbs else decimal i.natAbs

/-- The value of a decimal digit character. -/
def digitValue (c : Char) : Option Nat := if c.isDigit then some (c.toNat - '0'.toNat) else none

/-- The next step of reading a number, digit by digit. -/
def pushDigit (acc : Nat) (c : Char) : Nat := 10 * acc + (c.toNat - '0'.toNat)

/-- A whole number of a request: unsigned decimal digits, leading zeros allowed (11.1). -/
def parseNum (w : Text) : Option Nat :=
  if w ≠ [] ∧ w.all Char.isDigit then some (w.foldl pushDigit 0) else none

/-- Exactly two decimal digits. -/
def parseTwo : Text → Option Nat
  | [a, b] => match digitValue a, digitValue b with
    | some x, some y => some (10 * x + y)
    | _, _ => none
  | _ => none

/-- hh:mm as a minute of day (R139). -/
def parseMinute (w : Text) : Option Nat :=
  match w with
  | [a, b, ':', c, d] => match parseTwo [a, b], parseTwo [c, d] with
    | some h, some m => if h < 24 ∧ m < 60 then some (60 * h + m) else none
    | _, _ => none
  | _ => none

/-- hh:mm:ss as the seconds of the day (R173). -/
def parseSeconds (w : Text) : Option Nat :=
  match w with
  | [a, b, ':', c, d, ':', e, f] => match parseTwo [a, b], parseTwo [c, d], parseTwo [e, f] with
    | some h, some m, some s => if h < 24 ∧ m < 60 ∧ s < 60 then some (3600 * h + 60 * m + s) else none
    | _, _, _ => none
  | _ => none

/-- The sixteen hexadecimal digits of a line, in capitals (11.1). -/
def hexDigits : Text := "0123456789ABCDEF".toList

/-- A digit 0 to 15 as its character. -/
def hexChar (n : Nat) : Char := hexDigits.getD n '0'

/-- The value of an uppercase hexadecimal digit; a lowercase one has none (R182). -/
def hexValue (c : Char) : Option Nat := hexDigits.findIdx? (· == c)

/-- Two uppercase hexadecimal digits (11.1). -/
def hexByte (b : BitVec 8) : Text := [hexChar (b.toNat / 16), hexChar (b.toNat % 16)]

/-- Two uppercase hexadecimal digits as a byte (R190, R182). -/
def parseHexByte : Text → Option (BitVec 8)
  | [a, b] => match hexValue a, hexValue b with
    | some x, some y => some (BitVec.ofNat 8 (16 * x + y))
    | _, _ => none
  | _ => none

/-- A number below 100 in two digits. -/
def twoDigits (n : Nat) : Text := [Nat.digitChar (n / 10 % 10), Nat.digitChar (n % 10)]

/-- A time of day as hh:mm:ss (11.1). -/
def timeText (tod : Nat) : Text :=
  twoDigits (tod / 3600) ++ ':' :: twoDigits (tod / 60 % 60) ++ ':' :: twoDigits (tod % 60)

/-- A minute of day as hh:mm (11.1). -/
def minuteText (m : Nat) : Text := twoDigits (m / 60) ++ ':' :: twoDigits (m % 60)

/-! ### Names -/

def HolderId.name : HolderId → Text
  | .h1 => "H1".toList
  | .h2 => "H2".toList
  | .h3 => "H3".toList
  | .h4 => "H4".toList
  | .h5 => "H5".toList
  | .h6 => "H6".toList

def Side.name : Side → Text
  | .inlet => "IN".toList
  | .outlet => "OUT".toList

def DistrictId.name : DistrictId → Text
  | .d1 => "D1".toList
  | .d2 => "D2".toList
  | .d3 => "D3".toList
  | .d4 => "D4".toList

def PathId.name : PathId → Text
  | .make => "MAKE".toList
  | .dist d => DistrictId.name d

def MeterId.name : MeterId → Text
  | .mc => "MC".toList
  | .mw => "MW".toList
  | .m1 => "M1".toList
  | .m2 => "M2".toList
  | .m3 => "M3".toList
  | .m4 => "M4".toList

/-- The member of `all` whose name is the word. -/
def parseName {α : Type} (all : List α) (name : α → Text) (w : Text) : Option α := all.find? fun a => name a == w

def parseHolder (w : Text) : Option HolderId := parseName HolderId.all HolderId.name w
def parseSide (w : Text) : Option Side := parseName Side.all Side.name w
def parseDistrict (w : Text) : Option DistrictId := parseName DistrictId.all DistrictId.name w
def parsePath (w : Text) : Option PathId := parseName PathId.all PathId.name w
def parseMeter (w : Text) : Option MeterId := parseName MeterId.all MeterId.name w

def Mode.name : Mode → Text
  | .survey => "SURVEY".toList
  | .run => "RUN".toList
  | .hold => "HOLD".toList

def Service.name : Service → Text
  | .inService => "IN".toList
  | .outOfService => "OUT".toList

def parseService (w : Text) : Option Service := parseName [.inService, .outOfService] Service.name w

/-- The priority mode as a read shows it (R86). -/
def Priority.name : Priority → Text
  | .fixed => "FIXED".toList
  | .rotating => "ROTATING".toList

/-- The priority mode as PRIO takes it: FIXED, or ROTATE for ROTATING (R85). -/
def Priority.word : Priority → Text
  | .fixed => "FIXED".toList
  | .rotating => "ROTATE".toList

def parsePriority (w : Text) : Option Priority := parseName [.fixed, .rotating] Priority.word w

def OrderKind.name : OrderKind → Text
  | .fill => "FILL".toList
  | .draw => "DRAW".toList
  | .prove => "PROVE".toList

def AtCount.name : AtCount → Text
  | .hand => "HAND".toList
  | .stand => "STAND".toList

def parseAtCount (w : Text) : Option AtCount := parseName [.hand, .stand] AtCount.name w

def OrderState.name : OrderState → Text
  | .pending => "PENDING".toList
  | .ready => "READY".toList
  | .starting => "STARTING".toList
  | .running => "RUNNING".toList
  | .overrun => "OVERRUN".toList
  | .proving => "PROVING".toList

def Cause.name : Cause → Text
  | .ended => "ENDED".toList
  | .topped => "TOPPED".toList
  | .lowed => "LOWED".toList
  | .lost => "LOST".toList
  | .valve => "VALVE".toList
  | .hold => "HOLD".toList
  | .handed => "HANDED".toList
  | .continued => "CONTINUED".toList
  | .pass => "PASS".toList
  | .leak => "LEAK".toList
  | .incomplete => "INCOMPLETE".toList

def Contact.name : Contact → Text
  | .made => "MADE".toList
  | .broken => "BROKEN".toList

def ValveState.name : ValveState → Text
  | .unknown => "UNKNOWN".toList
  | .closed => "CLOSED".toList
  | .opening _ => "OPENING".toList
  | .opened => "OPEN".toList
  | .closing _ => "CLOSING".toList
  | .fault _ => "FAULT".toList

def Origin.name : Origin → Text
  | .commanded => "COMMANDED".toList
  | .moved => "MOVED".toList

def ValveFault.name : ValveFault → Text
  | .stroke => "STROKE".toList
  | .travel => "TRAVEL".toList
  | .both => "BOTH".toList

def Drive.name : Drive → Text
  | .driveOpen => "OPEN".toList
  | .driveClose => "CLOSE".toList
  | .rest => "REST".toList

def GrantKind.name : GrantKind → Text
  | .ordered => "ORDERED".toList
  | .adopted => "ADOPTED".toList

def Stage.name : Stage → Text
  | .first => "FIRST".toList
  | .second => "SECOND".toList

def PairState.name : PairState → Text
  | .pair => "PAIR".toList
  | .singleDuty => "SINGLE-DUTY".toList
  | .singleCheck => "SINGLE-CHECK".toList
  | .disagree => "DISAGREE".toList
  | .none => "NONE".toList

def Condition.name : Condition → Text
  | .low => "LOW".toList
  | .band => "BAND".toList
  | .high => "HIGH".toList
  | .unordered => "UNORDERED".toList

def RequestState.name : RequestState → Text
  | .none => "NONE".toList
  | .queued => "QUEUED".toList
  | .granted => "GRANTED".toList

def BoosterState.name : BoosterState → Text
  | .off => "OFF".toList
  | .runUp => "RUN-UP".toList
  | .running => "RUNNING".toList
  | .aligning => "ALIGNING".toList
  | .runDown => "RUN-DOWN".toList
  | .fault _ => "FAULT".toList

def BoosterFault.name : BoosterFault → Text
  | .runUp => "RUN-UP".toList
  | .contact => "CONTACT".toList

def BarometerSource.name : BarometerSource → Text
  | .reading => "READING".toList
  | .interval => "INTERVAL".toList

def Opened.name : Opened → Text
  | .boundary => "BOUNDARY".toList
  | .short => "SHORT".toList

def ResetKind.name : ResetKind → Text
  | .cold => "COLD".toList
  | .warm => "WARM".toList

def Discard.name : Discard → Text
  | .check => "CHECK".toList
  | .long => "LONG".toList
  | .char => "CHAR".toList
  | .star => "STAR".toList
  | .gap => "GAP".toList
  | .stuck => "STUCK".toList
  | .overlap => "OVERLAP".toList

def OutcomeCode.name : OutcomeCode → Text
  | .ok => "OK".toList
  | .cl => "CL".toList
  | .rm => "RM".toList
  | .rs => "RS".toList
  | .ra => "RA".toList
  | .ru => "RU".toList
  | .busy => "BY".toList

/-! ### Items of reply data -/

/-- An absent item (0.5). -/
def noneItem : Text := "NONE".toList

/-- An optional item: its word, or NONE. -/
def item {α : Type} (f : α → Text) : Option α → Text
  | none => noneItem
  | some a => f a

/-- An optional run of items: its words, or the one word NONE (log entry 6). -/
def items {α : Type} (f : α → List Text) : Option α → List Text
  | none => [noneItem]
  | some a => f a

/-- A mark given YES or NO. -/
def yesNo (b : Bool) : Text := if b then "YES".toList else "NO".toList

/-- A mark given SET or CLEAR (R86). -/
def setClear (b : Bool) : Text := if b then "SET".toList else "CLEAR".toList

/-- A clock time as hh:mm:ss (11.1). -/
def clockItem (t : Option ClockTime) : Text := item (fun c => timeText c.tod) t

/-- A gas day and hh:mm:ss, or NONE (R39, R56). -/
def dayTimeItems (t : Option ClockTime) : List Text := items (fun c => [decimal c.day, timeText c.tod]) t

/-- A contact, or NONE before its first report (R35, R166). -/
def contactItem (c : Option Contact) : Text := item Contact.name c

/-- Words joined by single spaces (11.1). -/
def joinWords : List Text → Text
  | [] => []
  | [w] => w
  | w :: ws => w ++ ' ' :: joinWords ws

/-- A text split into words at each space (R184). -/
def splitWords : Text → List Text
  | [] => [[]]
  | c :: cs =>
    if c = ' ' then [] :: splitWords cs
    else match splitWords cs with
      | [] => [[c]]
      | w :: ws => (c :: w) :: ws

/-- The sum of the character codes of a text, modulo 256 (11.1). -/
def checkSum (t : Text) : BitVec 8 := BitVec.ofNat 8 (t.foldl (fun a c => a + c.toNat) 0)

/-- The reply line before its star: outcome, summary, verb and data, separated by single spaces (11.1). -/
def Reply.body (r : Reply) : Text := joinWords (r.outcome.name :: hexByte r.summary :: r.verb :: r.data)

/-- The whole reply line: body, star, check digits, CR and LF (11.1, R186). -/
def Reply.line (r : Reply) : Text := r.body ++ '*' :: hexByte (checkSum r.body) ++ ['\r', '\n']

end Sys2Proof.Machine
end

