-- ==== Sys2Proof/Decode.lean ====
section
/-!
DEFINITION. From the text of an accepted request line to its command and back: the verb catalogue (11.6), the forms that share a
verb, and the words of a command's line. No row of spec/opcode_table.json gives bits, so no word spells a command.
-/
namespace Sys2Proof.Machine

/-! ### The verbs and form words of 11.6 -/

def yardVerb : Text := "YARD".toList
def grpVerb : Text := "GRP".toList
def clrVerb : Text := "CLR".toList
def attnVerb : Text := "ATTN".toList
def modeVerb : Text := "MODE".toList
def clockVerb : Text := "CLOCK".toList
def restartVerb : Text := "RESTART".toList
def saveVerb : Text := "SAVE".toList
def geomVerb : Text := "GEOM".toList
def stopsVerb : Text := "STOPS".toList
def serviceVerb : Text := "SERVICE".toList
def holderVerb : Text := "HOLDER".toList
def strokeVerb : Text := "STROKE".toList
def valveVerb : Text := "VALVE".toList
def loadVerb : Text := "LOAD".toList
def proveVerb : Text := "PROVE".toList
def endVerb : Text := "END".toList
def dropVerb : Text := "DROP".toList
def ordersVerb : Text := "ORDERS".toList
def finVerb : Text := "FIN".toList
def prioVerb : Text := "PRIO".toList
def pathVerb : Text := "PATH".toList
def schedVerb : Text := "SCHED".toList
def fogVerb : Text := "FOG".toList
def governVerb : Text := "GOVERN".toList
def distVerb : Text := "DIST".toList
def boostVerb : Text := "BOOST".toList
def boosterVerb : Text := "BOOSTER".toList
def meterVerb : Text := "METER".toList
def cvVerb : Text := "CV".toList
def acctVerb : Text := "ACCT".toList
def dayVerb : Text := "DAY".toList
def balVerb : Text := "BAL".toList

/-- The word of the form CLOCK START. -/
def startWord : Text := "START".toList
/-- The word of the forms VALVE … CLEAR and BOOST CLEAR. -/
def clearWord : Text := "CLEAR".toList
/-- The word of the form METER DEFAULT. -/
def defaultWord : Text := "DEFAULT".toList

/-! ### Forms that share a verb -/

/-- CLOCK: the form START has that word first (R173). -/
def clockForm (args : List Text) : Instr :=
  match args with
  | [] => .clock []
  | w :: rest => if w = startWord then .clockStart rest else .clock (w :: rest)

/-- VALVE: the form of three arguments ends in CLEAR (R34, R35). -/
def valveForm (args : List Text) : Instr :=
  match args with
  | [a, b, c] => if c = clearWord then .valveClear [a, b] else .valve [a, b, c]
  | ws => .valve ws

/-- METER: DEFAULT first, or a meter and a value, or the read (R130, R131). -/
def meterForm (args : List Text) : Instr :=
  match args with
  | [] => .meter []
  | [a] => if a = defaultWord then .meterDefault [] else .meter [a]
  | [a, b] => if a = defaultWord then .meterDefault [b] else .meterSet [a, b]
  | a :: rest => if a = defaultWord then .meterDefault rest else .meter (a :: rest)

/-- DAY: the header with no argument (R133). -/
def dayForm (args : List Text) : Instr :=
  match args with
  | [] => .day
  | ws => .dayAcct ws

/-- BOOST: the form whose one argument is CLEAR (R165). -/
def boostForm (args : List Text) : Instr := if args = [clearWord] then .boostClear else .boost args

/-! ### The catalogue -/

/-- The verb catalogue: each verb with the command its arguments make (11.6). -/
def catalogue : List (Text × (List Text → Instr)) :=
  [(yardVerb, .yard), (grpVerb, .grp), (clrVerb, .clr), (attnVerb, .attn), (modeVerb, .mode), (clockVerb, clockForm),
   (restartVerb, .restart), (saveVerb, .save), (geomVerb, .geom), (stopsVerb, .stops), (serviceVerb, .service),
   (holderVerb, .holder), (strokeVerb, .stroke), (valveVerb, valveForm), (loadVerb, .load), (proveVerb, .prove),
   (endVerb, .endOrder), (dropVerb, .drop), (ordersVerb, .orders), (finVerb, .fin), (prioVerb, .prio), (pathVerb, .path),
   (schedVerb, .sched), (fogVerb, .fog), (governVerb, .govern), (distVerb, .dist), (boostVerb, boostForm),
   (boosterVerb, .booster), (meterVerb, meterForm), (cvVerb, .cv), (acctVerb, .acct), (dayVerb, dayForm), (balVerb, .bal)]

/-- The verb stands in the catalogue, in capitals as given there (R184). -/
def knownVerb (verb : Text) : Bool := catalogue.any fun e => e.1 == verb

/-- The command that the words of an accepted line make (R184). -/
def requestOfWords (verb : Text) (args : List Text) : Instr :=
  match catalogue.find? fun e => e.1 == verb with
  | some e => e.2 args
  | none => .unknownVerb verb args

/-- The command that the text of an accepted line makes, split into words at each space (R184). -/
def requestOf (text : Text) : Instr :=
  match splitWords text with
  | verb :: args => requestOfWords verb args
  | [] => .unknownVerb [] []

/-- The whole line of a text: the text, the star, the check digits and CR (11.1). -/
def lineOf (text : Text) : Text := text ++ '*' :: hexByte (checkSum text) ++ ['\r']

end Sys2Proof.Machine

namespace Sys2Proof

open Machine

/-- The words of the request line of a command, verb first; a command that is no line of its own has none. The line of a busy
answer is some other command's. -/
def Instr.lineWords : Instr → Option (List Text)
  | .unknownVerb verb args => some (verb :: args)
  | .yard args => some (yardVerb :: args)
  | .grp args => some (grpVerb :: args)
  | .clr args => some (clrVerb :: args)
  | .attn args => some (attnVerb :: args)
  | .mode args => some (modeVerb :: args)
  | .clock args => some (clockVerb :: args)
  | .clockStart args => some (clockVerb :: startWord :: args)
  | .restart args => some (restartVerb :: args)
  | .save args => some (saveVerb :: args)
  | .geom args => some (geomVerb :: args)
  | .stops args => some (stopsVerb :: args)
  | .service args => some (serviceVerb :: args)
  | .holder args => some (holderVerb :: args)
  | .stroke args => some (strokeVerb :: args)
  | .valve args => some (valveVerb :: args)
  | .valveClear args => some (valveVerb :: (args ++ [clearWord]))
  | .load args => some (loadVerb :: args)
  | .prove args => some (proveVerb :: args)
  | .endOrder args => some (endVerb :: args)
  | .drop args => some (dropVerb :: args)
  | .orders args => some (ordersVerb :: args)
  | .fin args => some (finVerb :: args)
  | .prio args => some (prioVerb :: args)
  | .path args => some (pathVerb :: args)
  | .sched args => some (schedVerb :: args)
  | .fog args => some (fogVerb :: args)
  | .govern args => some (governVerb :: args)
  | .dist args => some (distVerb :: args)
  | .boost args => some (boostVerb :: args)
  | .boostClear => some [boostVerb, clearWord]
  | .booster args => some (boosterVerb :: args)
  | .meter args => some (meterVerb :: args)
  | .meterSet args => some (meterVerb :: args)
  | .meterDefault args => some (meterVerb :: defaultWord :: args)
  | .cv args => some (cvVerb :: args)
  | .acct args => some (acctVerb :: args)
  | .day => some [dayVerb]
  | .dayAcct args => some (dayVerb :: args)
  | .bal args => some (balVerb :: args)
  | .coldStart _ => none
  | .characterReceived _ => none
  | .gapTimerExpiry => none
  | .replySent => none
  | .warmRestart => none
  | .busyWindowEnd => none
  | .saveComplete => none
  | .requestBusy _ _ => none
  | .clockSecond => none
  | .intervalEnd => none
  | .hourEnd => none
  | .dayEnd => none
  | .heightReport _ _ => none
  | .lossTimerExpiry _ => none
  | .holderTemperatureReport _ _ => none
  | .holderTemperatureStale _ => none
  | .valveContactReport _ _ _ _ => none
  | .strokeTimerExpiry _ _ => none
  | .provingTimerExpiry _ => none
  | .pulseReport _ _ => none
  | .lineGaugeReport _ _ => none
  | .lineTemperatureReport _ _ => none
  | .barometerReport _ => none
  | .farPointGaugeReport _ _ _ => none
  | .periodEnd _ => none
  | .boosterContactReport _ => none
  | .runUpExpiry => none
  | .alignmentExpiry => none
  | .runDownExpiry => none
  | .resetAsserted => none

/-- The text of a command's request line (11.1). -/
def Instr.text (i : Instr) : Option Text := i.lineWords.map joinWords

/-- The command that a word of the table's bits spells: no row of spec/opcode_table.json gives bits, so no word spells one. -/
def decodeTableWord (_nbits _w : Nat) : Option Instr := none

end Sys2Proof
end

