-- ==== Sys2Proof/Machine/Correction.lean ====
section
/-!
DEFINITION. The correction unit (chapter 6): five computations on exact whole numbers, with no state of its own (R113).
-/
namespace Sys2Proof.Machine

/-- A quotient rounded half up: the floored quotient of twice the dividend plus the divisor by twice the divisor (R101). -/
def roundHalfUp (dividend divisor : Nat) : Nat := (2 * dividend + divisor) / (2 * divisor)

/-- The barometric conversion, hundredths of an inch of mercury to tenths of an inch water gauge (R103). -/
def barometric (b : Nat) : Nat := (b * 136 + 50) / 100

/-- The absolute pressure P (R104). -/
def absolutePressure (b g : Nat) : Nat := barometric b + g

/-- The absolute temperature, degrees Rankine (R105). -/
def absoluteTemperature (t : Nat) : Nat := t + 460

/-- The correction factor F in ten-thousandths, from barometer, gauge and temperature (R106). -/
def factor (b g t : Nat) : Nat := roundHalfUp (absolutePressure b g * 520 * 10000) (4080 * absoluteTemperature t)

/-- The sum that an interval credit divides: line volume times factor plus residue (R107). -/
def creditSum (pulses pulseValue f residue : Nat) : Nat := pulses * pulseValue * f + residue

/-- The standard credit S of an interval (R107). -/
def standardCredit (pulses pulseValue f residue : Nat) : Nat := creditSum pulses pulseValue f residue / 10000

/-- The new volume residue R' of an interval (R107). -/
def creditResidue (pulses pulseValue f residue : Nat) : Nat := creditSum pulses pulseValue f residue % 10000

/-- The energy E of a credit, in Btu (R109). -/
def creditEnergy (credit cv btu : Nat) : Nat := credit * cv + btu

/-- The therms a credit adds (R109). -/
def creditTherms (credit cv btu : Nat) : Nat := creditEnergy credit cv btu / 100000

/-- The new Btu residue Q' (R109). -/
def creditBtu (credit cv btu : Nat) : Nat := creditEnergy credit cv btu % 100000

/-- The standard stock of a volume in holder cubic feet at a factor (R111). -/
def stockOf (volume f : Nat) : Nat := volume * f / 10000

/-- The average of an interval's readings, rounded half up (R119). -/
def average (sum count : Nat) : Nat := (sum + count / 2) / count

end Sys2Proof.Machine
end

