-- ==== Sys2Proof/Machine/Flags.lean ====
section
/-!
DEFINITION. The status flags (11.5): one name for each, its sticky store, the level flags computed from their conditions, the
eight groups in reading order, the summary, and the ATTN output (R187 to R190).
-/
namespace Sys2Proof.Machine

inductive HolderFlag where
  | top | low | lost | cup
  deriving DecidableEq, Repr

inductive ValveFlag where
  | fault | moved
  deriving DecidableEq, Repr

inductive OrderFlag where
  | promoted | tally
  deriving DecidableEq, Repr

inductive PathFlag where
  | unserved | adopted
  deriving DecidableEq, Repr

inductive DistrictFlag where
  | unordered | single | clamped
  deriving DecidableEq, Repr

inductive MeterFlag where
  | estimated | saturated
  deriving DecidableEq, Repr

inductive YardFlag where
  | cold | warm | mode | line | fault
  deriving DecidableEq, Repr

/-- A sticky flag (11.5). -/
inductive Flag where
  | holder (h : HolderId) (f : HolderFlag)
  | valve (h : HolderId) (side : Side) (f : ValveFlag)
  | overflow
  | order (h : HolderId) (f : OrderFlag)
  | path (p : PathId) (f : PathFlag)
  | district (d : DistrictId) (f : DistrictFlag)
  | boosterFault
  | boosterGrant
  | overwritten
  | meter (m : MeterId) (f : MeterFlag)
  | yard (f : YardFlag)
  deriving DecidableEq, Repr

def HolderFlags.on (r : HolderFlags) : HolderFlag → HolderFlags
  | .top => { r with top := true }
  | .low => { r with low := true }
  | .lost => { r with lost := true }
  | .cup => { r with cup := true }

def HolderFlags.get (r : HolderFlags) : HolderFlag → Bool
  | .top => r.top
  | .low => r.low
  | .lost => r.lost
  | .cup => r.cup

def ValveFlags.on (r : ValveFlags) : ValveFlag → ValveFlags
  | .fault => { r with fault := true }
  | .moved => { r with moved := true }

def ValveFlags.get (r : ValveFlags) : ValveFlag → Bool
  | .fault => r.fault
  | .moved => r.moved

def OrderFlags.on (r : OrderFlags) : OrderFlag → OrderFlags
  | .promoted => { r with promoted := true }
  | .tally => { r with tally := true }

def OrderFlags.get (r : OrderFlags) : OrderFlag → Bool
  | .promoted => r.promoted
  | .tally => r.tally

def PathFlags.on (r : PathFlags) : PathFlag → PathFlags
  | .unserved => { r with unserved := true }
  | .adopted => { r with adopted := true }

def PathFlags.get (r : PathFlags) : PathFlag → Bool
  | .unserved => r.unserved
  | .adopted => r.adopted

def DistrictFlags.on (r : DistrictFlags) : DistrictFlag → DistrictFlags
  | .unordered => { r with unordered := true }
  | .single => { r with single := true }
  | .clamped => { r with clamped := true }

def DistrictFlags.get (r : DistrictFlags) : DistrictFlag → Bool
  | .unordered => r.unordered
  | .single => r.single
  | .clamped => r.clamped

def MeterFlags.on (r : MeterFlags) : MeterFlag → MeterFlags
  | .estimated => { r with estimated := true }
  | .saturated => { r with saturated := true }

def MeterFlags.get (r : MeterFlags) : MeterFlag → Bool
  | .estimated => r.estimated
  | .saturated => r.saturated

def YardFlags.on (r : YardFlags) : YardFlag → YardFlags
  | .cold => { r with cold := true }
  | .warm => { r with warm := true }
  | .mode => { r with mode := true }
  | .line => { r with line := true }
  | .fault => { r with fault := true }

def YardFlags.get (r : YardFlags) : YardFlag → Bool
  | .cold => r.cold
  | .warm => r.warm
  | .mode => r.mode
  | .line => r.line
  | .fault => r.fault

/-- A flag set among the sticky flags; one set again stays set (R187). -/
def StickyFlags.on (F : StickyFlags) : Flag → StickyFlags
  | .holder h f => { F with holders := F.holders.set h ((F.holders.get h).on f) }
  | .valve h side f =>
    { F with valves := F.valves.set h ((F.valves.get h).set side (((F.valves.get h).get side).on f)) }
  | .overflow => { F with overflow := true }
  | .order h f => { F with orders := F.orders.set h ((F.orders.get h).on f) }
  | .path p f => { F with paths := F.paths.set p ((F.paths.get p).on f) }
  | .district d f => { F with districts := F.districts.set d ((F.districts.get d).on f) }
  | .boosterFault => { F with boosterFault := true }
  | .boosterGrant => { F with boosterGrant := true }
  | .overwritten => { F with overwritten := true }
  | .meter m f => { F with meters := F.meters.set m ((F.meters.get m).on f) }
  | .yard f => { F with yard := F.yard.on f }

/-- Whether a sticky flag stands set. -/
def StickyFlags.get (F : StickyFlags) : Flag → Bool
  | .holder h f => (F.holders.get h).get f
  | .valve h side f => ((F.valves.get h).get side).get f
  | .overflow => F.overflow
  | .order h f => (F.orders.get h).get f
  | .path p f => (F.paths.get p).get f
  | .district d f => (F.districts.get d).get f
  | .boosterFault => F.boosterFault
  | .boosterGrant => F.boosterGrant
  | .overwritten => F.overwritten
  | .meter m f => (F.meters.get m).get f
  | .yard f => F.yard.get f

/-- The event that sets a sticky flag. -/
def State.raise (f : Flag) (s : State) : State := { s with flags := s.flags.on f }

/-- A flag of a group: sticky, or one of the three level flags (11.5). -/
inductive GroupFlag where
  | sticky (f : Flag)
  | finished
  | day
  | unset
  deriving DecidableEq, Repr

/-- Whether a flag stands set; the level flags follow their conditions (R187). -/
def State.shows (s : State) : GroupFlag → Bool
  | .sticky f => s.flags.get f
  | .finished => !s.finished.isEmpty
  | .day => match s.accounts.closed with
    | none => false
    | some c => !c.taken
  | .unset => s.yard.clock.isNone

/-- The flags of each group in reading order (11.5). -/
def groupFlags : Fin 8 → List GroupFlag
  | 0 => HolderId.all.flatMap fun h => [.top, .low, .lost, .cup].map fun f => .sticky (.holder h f)
  | 1 => HolderId.all.flatMap fun h => Side.all.flatMap fun side =>
      [.fault, .moved].map fun f => .sticky (.valve h side f)
  | 2 => .finished :: .sticky .overflow ::
      HolderId.all.flatMap fun h => [.promoted, .tally].map fun f => .sticky (.order h f)
  | 3 => PathId.all.flatMap fun p => [.unserved, .adopted].map fun f => .sticky (.path p f)
  | 4 => DistrictId.all.flatMap fun d => [.unordered, .single, .clamped].map fun f => .sticky (.district d f)
  | 5 => [.sticky .boosterFault, .sticky .boosterGrant]
  | 6 => .day :: .sticky .overwritten ::
      MeterId.all.flatMap fun m => [.estimated, .saturated].map fun f => .sticky (.meter m f)
  | 7 => ([.cold, .warm, .mode, .line, .fault].map fun f => .sticky (.yard f)) ++ [.unset]

/-- Every sticky flag of one group clear; the other groups as they were (R189). -/
def StickyFlags.clearGroup (F : StickyFlags) : Fin 8 → StickyFlags
  | 0 => { F with holders := StickyFlags.clear.holders }
  | 1 => { F with valves := StickyFlags.clear.valves }
  | 2 => { F with overflow := false, orders := StickyFlags.clear.orders }
  | 3 => { F with paths := StickyFlags.clear.paths }
  | 4 => { F with districts := StickyFlags.clear.districts }
  | 5 => { F with boosterFault := false, boosterGrant := false }
  | 6 => { F with overwritten := false, meters := StickyFlags.clear.meters }
  | 7 => { F with yard := StickyFlags.clear.yard }

/-- Whether some flag of the group stands set. -/
def State.groupSet (s : State) (n : Fin 8) : Bool := (groupFlags n).any s.shows

/-- The summary: bit n is set exactly when some flag of group n is set (R187). -/
def State.summary (s : State) : BitVec 8 :=
  BitVec.ofBoolListLE
    [s.groupSet 0, s.groupSet 1, s.groupSet 2, s.groupSet 3, s.groupSet 4, s.groupSet 5, s.groupSet 6, s.groupSet 7]

/-- The ATTN output: asserted exactly when the summary and the mask share a set bit, and released while RESET is held low
(R190). -/
def State.attn (s : State) : Bool := !s.yard.resetHeld && (s.summary &&& s.line.mask) != 0#8

/-- An entity and a flag joined with a hyphen (R188). -/
def hyphened (a b : Text) : Text := a ++ '-' :: b

def HolderFlag.name : HolderFlag → Text
  | .top => "TOP".toList
  | .low => "LOW".toList
  | .lost => "LOST".toList
  | .cup => "CUP".toList

def ValveFlag.name : ValveFlag → Text
  | .fault => "FAULT".toList
  | .moved => "MOVED".toList

def OrderFlag.name : OrderFlag → Text
  | .promoted => "PROMOTED".toList
  | .tally => "TALLY".toList

def PathFlag.name : PathFlag → Text
  | .unserved => "UNSERVED".toList
  | .adopted => "ADOPTED".toList

def DistrictFlag.name : DistrictFlag → Text
  | .unordered => "UNORDERED".toList
  | .single => "SINGLE".toList
  | .clamped => "CLAMPED".toList

def MeterFlag.name : MeterFlag → Text
  | .estimated => "ESTIMATED".toList
  | .saturated => "SATURATED".toList

def YardFlag.name : YardFlag → Text
  | .cold => "COLD".toList
  | .warm => "WARM".toList
  | .mode => "MODE".toList
  | .line => "LINE".toList
  | .fault => "FAULT".toList

/-- A flag as GRP and CLR name it (R188). -/
def GroupFlag.name : GroupFlag → Text
  | .sticky (.holder h f) => hyphened (HolderId.name h) f.name
  | .sticky (.valve h side f) => hyphened (HolderId.name h) (hyphened (Side.name side) f.name)
  | .sticky .overflow => "OVERFLOW".toList
  | .sticky (.order h f) => hyphened (HolderId.name h) f.name
  | .sticky (.path p f) => hyphened (PathId.name p) f.name
  | .sticky (.district d f) => hyphened (DistrictId.name d) f.name
  | .sticky .boosterFault => "FAULT".toList
  | .sticky .boosterGrant => "GRANT".toList
  | .sticky .overwritten => "OVERWRITTEN".toList
  | .sticky (.meter m f) => hyphened (MeterId.name m) f.name
  | .sticky (.yard f) => f.name
  | .finished => "FINISHED".toList
  | .day => "DAY".toList
  | .unset => "UNSET".toList

end Sys2Proof.Machine
end

