-- ==== Sys2Proof/Machine/Ops.lean ====
section
/-!
DEFINITION. The named operations over the records of the state that every block uses: reading and writing one record, setting a
flag, and bringing a number within a range.
-/
namespace Sys2Proof.Machine

/-! ### Bringing a value within its range (0.5) -/

/-- A value brought to the nearer end of its range. -/
def clampTo (lo hi n : Nat) : Nat := max lo (min n hi)

/-- A signed value brought to the nearer end of a range (R16). -/
def clampInt (lo hi i : Int) : Int := max lo (min i hi)

/-- A reported value that lies within a range, and nothing otherwise (R6, R17, R117, R118, R141). -/
def validReading (lo hi : Nat) : Option Int → Option Nat
  | none => none
  | some i => if (lo : Int) ≤ i ∧ i ≤ (hi : Int) then some i.toNat else none

/-- Adding to a count that stops at its limit (R120, R145). -/
def countUp (n : Nat) : Nat := min (n + 1) Config.countLimit

/-! ### One record of the state -/

def State.holder (s : State) (h : HolderId) : HolderRec := s.holders.get h
def State.setHolder (h : HolderId) (r : HolderRec) (s : State) : State := { s with holders := s.holders.set h r }

/-- The setting part of a holder. -/
def State.holderSettings (s : State) (h : HolderId) : HolderSettings := s.settings.holders.get h
def State.setHolderSettings (h : HolderId) (c : HolderSettings) (s : State) : State :=
  { s with settings := { s.settings with holders := s.settings.holders.set h c } }

def State.valve (s : State) (h : HolderId) (side : Side) : ValveRec := (s.valves.get h).get side
def State.setValve (h : HolderId) (side : Side) (v : ValveRec) (s : State) : State :=
  { s with valves := s.valves.set h ((s.valves.get h).set side v) }

/-- The order in a holder's active slot. -/
def State.active (s : State) (h : HolderId) : Option Order := (s.slots.get h).active
/-- The order in a holder's follow-on slot. -/
def State.followOn (s : State) (h : HolderId) : Option Order := (s.slots.get h).followOn
def State.setSlots (h : HolderId) (r : Slots) (s : State) : State := { s with slots := s.slots.set h r }
def State.setActive (h : HolderId) (o : Option Order) (s : State) : State := s.setSlots h ⟨o, s.followOn h⟩
def State.setFollowOn (h : HolderId) (o : Option Order) (s : State) : State := s.setSlots h ⟨s.active h, o⟩

def State.path (s : State) (p : PathId) : PathRec := s.paths.get p
def State.setPath (p : PathId) (r : PathRec) (s : State) : State := { s with paths := s.paths.set p r }
def State.setPathState (p : PathId) (st : PathState) (s : State) : State := s.setPath p { s.path p with state := st }

def State.district (s : State) (d : DistrictId) : DistrictRec := s.districts.get d
def State.setDistrict (d : DistrictId) (r : DistrictRec) (s : State) : State := { s with districts := s.districts.set d r }

/-- The setting part of a district. -/
def State.districtSettings (s : State) (d : DistrictId) : DistrictSettings := s.settings.districts.get d
def State.setDistrictSettings (d : DistrictId) (c : DistrictSettings) (s : State) : State :=
  { s with settings := { s.settings with districts := s.settings.districts.set d c } }

def State.meter (s : State) (m : MeterId) : MeterRec := s.accounts.meters.get m
def State.setMeter (m : MeterId) (r : MeterRec) (s : State) : State :=
  { s with accounts := { s.accounts with meters := s.accounts.meters.set m r } }

def State.setBooster (b : BoosterRec) (s : State) : State := { s with booster := b }

/-- The unsaved mark, set by each request that changes a setting held in the store (R176). -/
def State.markUnsaved (s : State) : State := { s with yard := { s.yard with unsaved := true } }

/-- The yard clock's time of day, when it is set. -/
def State.now (s : State) : Option ClockTime := s.yard.clock

/-- An operation done for each name of a list, in order. -/
def forEach {α : Type} (xs : List α) (f : α → State → State) (s : State) : State := xs.foldl (fun s a => f a s) s

/-! ### The stock of a holder (R18, R111) -/

/-- The barometer value that a stock uses: the yard barometer value, or 3,000 while it is absent (R118). -/
def State.stockBarometer (s : State) : Nat :=
  match s.accounts.barometer.value with
  | some (b, _) => b
  | none => Config.barometerStandIn

/-- The standard stock of a holder from the values present, absent where R18 says it is unavailable. -/
def State.stock (s : State) (h : HolderId) : Option Nat :=
  let r := s.holder h
  match r.lost, (s.holderSettings h).geometry, r.height, r.volume, r.temperature with
  | false, some _, some _, some v, some t => some (stockOf v (factor s.stockBarometer r.nominal t))
  | _, _, _, _, _ => none

/-- A stock written, with the clock time, into the holder's last stock (R18). -/
def State.keepStock (h : HolderId) (stock : Nat) (s : State) : State :=
  s.setHolder h { s.holder h with lastStock := some ⟨stock, s.now⟩ }

/-- The stock of a holder computed at an event: an available one is written into the last stock, an unavailable one leaves
it (R18). -/
def State.takeStock (h : HolderId) (s : State) : State :=
  match s.stock h with
  | some k => s.keepStock h k
  | none => s

end Sys2Proof.Machine
end

