-- ==== Sys2Proof/Machine/Accounts.lean ====
section
/-!
DEFINITION. Meter accounts (chapter 7): gathering, the interval end and its six credits, the hour end, the snapshots, the day
close and the day's opening.
-/
namespace Sys2Proof.Machine

/-! ### Gathering (7.2 to 7.4) -/

/-- A pulse report: the count saturates at 65,535, marking what it loses (R116). -/
def MeterRec.addPulses (r : MeterRec) (n : Nat) : MeterRec :=
  { r with pulses := min (r.pulses + n) Config.countLimit,
           saturated := r.saturated || decide (Config.countLimit < r.pulses + n) }

/-- A valid line gauge reading added, unless the count stands at its limit (R117). -/
def MeterRec.addGauge (r : MeterRec) (v : Nat) : MeterRec :=
  if r.gaugeCount < Config.countLimit then { r with gaugeSum := r.gaugeSum + v, gaugeCount := r.gaugeCount + 1 } else r

/-- A valid line temperature reading added, unless the count stands at its limit (R117). -/
def MeterRec.addTemperature (r : MeterRec) (v : Nat) : MeterRec :=
  if r.tempCount < Config.countLimit then { r with tempSum := r.tempSum + v, tempCount := r.tempCount + 1 } else r

/-- A valid barometer reading added, with the count's limit, and written as the yard barometer value (R118). -/
def Barometer.add (b : Barometer) (v : Nat) : Barometer :=
  let c := if b.count < Config.countLimit then { b with sum := b.sum + v, count := b.count + 1 } else b
  { c with value := some (v, .reading) }

/-- Something has been gathered since the last interval end (R129). -/
def State.markGathered (s : State) : State := { s with accounts := { s.accounts with gathered := true } }

/-! ### Interval values (R119) -/

/-- An interval value and whether it is estimated: the average, else the last used value, else the stand-in (R119). -/
def intervalValue (sum count : Nat) (lastUsed : Option Nat) (standIn : Nat) : Nat × Bool :=
  if 0 < count then (average sum count, false)
  else match lastUsed with
    | some v => (v, true)
    | none => (standIn, true)

/-- The interval's barometer value (R119). -/
def Barometer.interval (b : Barometer) : Nat × Bool :=
  intervalValue b.sum b.count (b.value.map Prod.fst) Config.barometerStandIn

/-- The barometer record after an interval end (R118, R120). -/
def Barometer.endInterval (b : Barometer) : Barometer :=
  { value := if 0 < b.count then some (average b.sum b.count, .interval) else b.value, sum := 0, count := 0 }

/-- A slot's number among the 24, from an hour of the day and the start hour (R120). -/
def slotOf (hour start : Nat) : Fin 24 := Fin.ofNat 24 (hour + 24 - start)

/-- The hour slot of an interval or hour end: the hour holding the time one second before (R120, R121). -/
def slotBefore (tod start : Nat) : Fin 24 := slotOf ((tod + Config.daySeconds - 1) % Config.daySeconds / Config.hourSeconds) start

/-- The hour slot of a time itself, a time exactly on the hour in the hour it begins (R129). -/
def slotAt (tod start : Nat) : Fin 24 := slotOf (tod / Config.hourSeconds) start

/-! ### The interval credit (R120) -/

/-- The inputs of a meter's credit, formed by R119. -/
structure CreditInputs where
  gauge : Nat
  temperature : Nat
  barometer : Nat
  estimated : Bool
  deriving DecidableEq, Repr

/-- The inputs of a meter's credit at an interval end (R119). -/
def State.creditInputs (s : State) (baro : Nat × Bool) (m : MeterId) : CreditInputs :=
  let r := s.meter m
  let g := intervalValue r.gaugeSum r.gaugeCount r.lastG s.settings.lineGauge
  let t := intervalValue r.tempSum r.tempCount r.lastT s.settings.lineTemperature
  { gauge := g.1, temperature := t.1, barometer := baro.1, estimated := g.2 || t.2 || baro.2 }

/-- The credit a meter makes from its inputs (R120 steps 1, 2 and 6). -/
def MeterRec.credit (r : MeterRec) (i : CreditInputs) (pulseValue : Nat) (time : ClockTime) : Credit :=
  let f := factor i.barometer i.gauge i.temperature
  { ended := time, pulses := r.pulses, pulseValue := pulseValue, gauge := i.gauge, temperature := i.temperature,
    barometer := i.barometer, factor := f, credited := standardCredit r.pulses pulseValue f r.residue,
    estimated := i.estimated, saturated := r.saturated }

/-- The meter record after its credit (R119, R120 steps 2, 6 and 7). -/
def MeterRec.endInterval (r : MeterRec) (c : Credit) : MeterRec :=
  { pulses := 0, saturated := false, gaugeSum := 0, gaugeCount := 0, tempSum := 0, tempCount := 0,
    lastG := if 0 < r.gaugeCount then some c.gauge else r.lastG,
    lastT := if 0 < r.tempCount then some c.temperature else r.lastT,
    residue := creditResidue r.pulses c.pulseValue c.factor r.residue,
    lastCredit := some c }

/-- The day's part of an account after a credit (R120 steps 3, 4 and 5). -/
def DayAccount.post (a : DayAccount) (c : Credit) (therms : Nat) (slot : Fin 24) : DayAccount :=
  { a with total := a.total + c.credited, therms := a.therms + therms,
           slots := a.slots.set slot (a.slots.get slot + c.credited),
           estimated := if c.estimated then countUp a.estimated else a.estimated,
           saturated := if c.saturated then countUp a.saturated else a.saturated }

/-- One meter credited at an interval end (R120). -/
def State.creditMeter (baro : Nat × Bool) (time : ClockTime) (slot : Fin 24) (m : MeterId) (s : State) : State :=
  let r := s.meter m
  let c := r.credit (s.creditInputs baro m) (s.settings.pulse.get m) time
  let cv := s.settings.cv.get m
  let q := s.accounts.btu.get m
  let a := s.accounts
  let t : State :=
    { s with accounts :=
      { a with meters := a.meters.set m (r.endInterval c),
               btu := a.btu.set m (creditBtu c.credited cv q),
               day := a.day.map fun d =>
                 { d with accounts :=
                     d.accounts.set m ((d.accounts.get m).post c (creditTherms c.credited cv q) slot) } } }
  if c.estimated then t.raise (.meter m .estimated) else t

/-- The six meters credited and the barometer's interval ended (R119, R120), its interval value written with source INTERVAL (R118); at
a clock jump too (DEDUCED, log entry 31). -/
def State.creditAll (time : ClockTime) (slot : Fin 24) (s : State) : State :=
  let baro := s.accounts.barometer.interval
  let t := forEach MeterId.all (State.creditMeter baro time slot) s
  { t with accounts := { t.accounts with barometer := s.accounts.barometer.endInterval, gathered := false } }

/-- An interval end, at the clock's time (R119, R120). With the clock unset none comes. -/
def State.intervalEnd (s : State) : State :=
  match s.now with
  | some c => s.creditAll c (slotBefore c.tod s.settings.startHour)
  | none => s

/-- The peak so far compared with the slot just ended (R121). -/
def DayAccount.comparePeak (a : DayAccount) (slot : Fin 24) : DayAccount :=
  let figure := a.slots.get slot
  match a.peak with
  | none => { a with peak := some ⟨slot, figure⟩ }
  | some p => if p.figure < figure then { a with peak := some ⟨slot, figure⟩ } else a

/-- An hour end, at the clock's time (R121). -/
def State.hourEnd (s : State) : State :=
  match s.now, s.accounts.day with
  | some c, some d =>
    let slot := slotBefore c.tod s.settings.startHour
    let d' : DayRec := { d with accounts := MeterTable.tabulate fun m => (d.accounts.get m).comparePeak slot }
    { s with accounts := { s.accounts with day := some d' } }
  | _, _ => s

/-! ### Snapshots (R123, R125) -/

/-- The holders that are IN service. -/
def State.inService (s : State) : List HolderId :=
  HolderId.all.filter fun h => (s.holderSettings h).service == .inService

/-- The opening snapshot: attempted while the open day has no open stock, and taken when every IN-service holder has a stock
(R123). -/
def State.openingSnapshot (s : State) : State :=
  match s.accounts.day with
  | some d =>
    if d.openStock.isNone ∧ (s.inService.all fun h => (s.stock h).isSome) then
      let sum := (s.inService.map fun h => (s.stock h).getD 0).sum
      let t := forEach s.inService State.takeStock s
      { t with accounts := { t.accounts with day := some { d with openStock := some sum, openStockTime := s.now } } }
    else s
  | none => s

/-- What a holder gives the closing snapshot: its stock, else its last stock, else 0 (R125). -/
def State.closingStock (s : State) (h : HolderId) : Nat :=
  match s.stock h with
  | some k => k
  | none => match (s.holder h).lastStock with
    | some k => k.stock
    | none => 0

/-- The closing snapshot's sum, over the IN-service holders (R125). -/
def State.closeStock (s : State) : Nat := (s.inService.map s.closingStock).sum

/-- Some IN-service holder's stock is unavailable, so that the snapshot is INCOMPLETE (R125). -/
def State.snapshotIncomplete (s : State) : Bool := s.inService.any fun h => (s.stock h).isNone

/-! ### The day close (R125 to R129) -/

/-- The slot with the greatest figure, the lowest-numbered of equals (R127). -/
def peakHour (slots : Vector Nat 24) : Fin 24 :=
  (List.finRange 24).foldl (fun best i => if slots.get best < slots.get i then i else best) 0

/-- The account part of the closed-day record (R127). -/
def DayAccount.close (a : DayAccount) (cv : Nat) : ClosedAccount :=
  { total := a.total, therms := a.therms, slots := a.slots, peakHour := peakHour a.slots, estimated := a.estimated,
    saturated := a.saturated, cv := cv }

/-- The make of a day: the totals of MC and MW (R126). -/
def DayRec.make (d : DayRec) : Nat := (d.accounts.get .mc).total + (d.accounts.get .mw).total

/-- The send-out of a day: the totals of M1 to M4 (R126). -/
def DayRec.sendOut (d : DayRec) : Nat :=
  (d.accounts.get .m1).total + (d.accounts.get .m2).total + (d.accounts.get .m3).total + (d.accounts.get .m4).total

/-- The change of stock of a day: close stock less open stock, absent with the open stock (R126). -/
def DayRec.change (d : DayRec) (closeStock : Nat) : Option Int := d.openStock.map fun o => (closeStock : Int) - (o : Int)

/-- The yard balance of a day: make less send-out less change of stock (R126). -/
def DayRec.balance (d : DayRec) (closeStock : Nat) : Option Int :=
  (d.change closeStock).map fun c => (d.make : Int) - (d.sendOut : Int) - c

/-- The closed-day record of the open day (R126, R127). -/
def State.closedRecord (d : DayRec) (time : ClockTime) (clockJump : Bool) (s : State) : ClosedDay :=
  { day := d.day, closeTime := time, make := d.make, sendOut := d.sendOut, openStock := d.openStock,
    closeStock := s.closeStock, change := d.change s.closeStock, balance := d.balance s.closeStock,
    incomplete := s.snapshotIncomplete || d.openStock.isNone || d.openMark, short := d.opened == .short,
    clockJump := clockJump,
    accounts := MeterTable.tabulate fun m => (d.accounts.get m).close (s.settings.cv.get m),
    taken := false }

/-- The day's part of an account at the opening of a day (R122, R128). -/
def DayAccount.fresh : DayAccount :=
  { total := 0, therms := 0, slots := Vector.replicate 24 0, peak := none, estimated := 0, saturated := 0 }

/-- A day opened, with its stock, time and mark (R122, R128, R129). -/
def DayRec.fresh (day : Nat) (opened : Opened) (stock : Option Nat) (time : Option ClockTime) (mark : Bool) : DayRec :=
  { day := day, opened := opened, openStock := stock, openStockTime := time, openMark := mark,
    accounts := .fill DayAccount.fresh }

/-- The open day closed at a time and another opened: the closing snapshot written into the last stocks, the record in place of
the one held, OVERWRITTEN if that was not taken, and the new day with the close stock as its open stock (R125 to R129). -/
def State.closeDay (time : ClockTime) (clockJump : Bool) (newDay : Nat) (opened : Opened) (s : State) : State :=
  match s.accounts.day with
  | none => s
  | some d =>
    let record := s.closedRecord d time clockJump
    let t := forEach s.inService State.takeStock s
    let u := if s.shows .day then t.raise .overwritten else t
    { u with accounts := { u.accounts with
        closed := some record,
        day := some (DayRec.fresh newDay opened (some s.closeStock) (some time) s.snapshotIncomplete) } }

/-- The gas-day number that follows another (R172). -/
def nextGasDay (day : Nat) : Nat := if day = Config.lastGasDay then 1 else day + 1

/-- A day end, at the clock's time: the gas-day number advances, the open day closes and the next opens BOUNDARY (R125, R128,
R172). -/
def State.dayEnd (s : State) : State :=
  match s.now with
  | none => s
  | some c =>
    let time : ClockTime := { c with day := nextGasDay c.day }
    ({ s with yard := { s.yard with clock := some time } }).closeDay time false (nextGasDay c.day) .boundary

end Sys2Proof.Machine
end

