-- ==== Sys2Proof/Machine/Valves.lean ====
section
/-!
DEFINITION. The valve drives (chapter 2): what a command, a contact report and a timer's expiry make of one valve record, and
which event passes on. The events' effects on orders and paths stand in Paths.lean.
-/
namespace Sys2Proof.Machine

/-- What a valve command answers (2.3): carried out, carried out with the stroke ending at once, or valve unavailable. -/
inductive Command where
  | carriedOut
  | strokeEnded
  | unavailable
  deriving DecidableEq, Repr

/-- The events the valve drives pass to the path arbiters and the order slots (2.2 to 2.6). `faulted` carries whether the
valve was opening before; `returnedOpen` is the return of R30 that R78 looks at. -/
inductive ValveEvent where
  | nothing
  | openConfirmed
  | closedConfirmed
  | faulted (wasOpening : Bool)
  | movedOpen
  | movedShut
  | foundOpen
  | foundClosed
  | returnedOpen
  deriving DecidableEq, Repr

/-- A valve in OPENING or OPEN, either of which bars its sister's opening (R24). -/
def ValveState.openingOrOpen : ValveState → Bool
  | .opening _ => true
  | .opened => true
  | _ => false

/-- A valve in OPENING. -/
def ValveState.isOpening : ValveState → Bool
  | .opening _ => true
  | _ => false

/-- A valve state entered: its drive and timer, and the time of the change where the state named changes (2.1). -/
def ValveRec.enter (v : ValveRec) (st : ValveState) (drive : Drive) (timer : Option Nat) (now : Option ClockTime) : ValveRec :=
  { v with state := st, drive := drive, timer := timer,
           lastChange := if v.state.name = st.name then v.lastChange else now }

/-- The OPEN contact recorded made and the SHUT contact broken. -/
def ValveRec.atOpen (v : ValveRec) : Bool := v.openC == some .made && v.shutC == some .broken

/-- The SHUT contact recorded made and the OPEN contact broken. -/
def ValveRec.atShut (v : ValveRec) : Bool := v.shutC == some .made && v.openC == some .broken

/-- A commanded opening stroke begun by a reversal, or by a MOVED stroke become COMMANDED; it ends at once where the recorded
contacts already show the far end (R24). -/
def ValveRec.redirectOpen (v : ValveRec) (limit : Nat) (now : Option ClockTime) : ValveRec × Command :=
  let w := v.enter (.opening .commanded) .driveOpen (some limit) now
  if w.atOpen then (w.enter .opened .rest none now, .strokeEnded) else (w, .carriedOut)

/-- A commanded closing stroke begun by a reversal, or by a MOVED stroke become COMMANDED (R25). -/
def ValveRec.redirectClose (v : ValveRec) (limit : Nat) (now : Option ClockTime) : ValveRec × Command :=
  let w := v.enter (.closing .commanded) .driveClose (some limit) now
  if w.atShut then (w.enter .closed .rest none now, .strokeEnded) else (w, .carriedOut)

/-- An open command (R24); `sister` says whether the other valve of the holder stands OPENING or OPEN. -/
def ValveRec.openCommand (v : ValveRec) (limit : Nat) (now : Option ClockTime) (sister : Bool) : ValveRec × Command :=
  if sister then (v, .unavailable)
  else match v.state with
    | .closed => (v.enter (.opening .commanded) .driveOpen (some limit) now, .carriedOut)
    | .opening .commanded => (v, .carriedOut)
    | .opening .moved => v.redirectOpen limit now
    | .closing _ => v.redirectOpen limit now
    | .opened => (v, .carriedOut)
    | .unknown => (v, .unavailable)
    | .fault _ => (v, .unavailable)

/-- A close command (R25). -/
def ValveRec.closeCommand (v : ValveRec) (limit : Nat) (now : Option ClockTime) : ValveRec × Command :=
  match v.state with
  | .opened => (v.enter (.closing .commanded) .driveClose (some limit) now, .carriedOut)
  | .closing .commanded => (v, .carriedOut)
  | .closing .moved => v.redirectClose limit now
  | .opening _ => v.redirectClose limit now
  | .unknown => (v.enter (.closing .commanded) .driveClose (some limit) now, .carriedOut)
  | .closed => (v, .carriedOut)
  | .fault _ => (v, .unavailable)

/-- Both contacts made: FAULT with cause BOTH, unless the valve is in FAULT already (R23). -/
def ValveRec.bothMade (v : ValveRec) (now : Option ClockTime) : ValveRec × ValveEvent :=
  match v.state with
  | .fault _ => (v, .nothing)
  | st => (v.enter (.fault .both) .rest none now, .faulted st.isOpening)

/-- A report with the OPEN contact made and the SHUT contact broken, taken by the state (R22, R27, R29, R30, R31). -/
def ValveRec.reportedOpen (v : ValveRec) (now : Option ClockTime) : ValveRec × ValveEvent :=
  match v.state with
  | .unknown => (v.enter .opened .rest none now, .foundOpen)
  | .closed => (v.enter .opened .rest none now, .movedOpen)
  | .opening .commanded => (v.enter .opened .rest none now, .openConfirmed)
  | .opening .moved => (v.enter .opened .rest none now, .nothing)
  | .opened => (v, .nothing)
  | .closing .commanded => (v, .nothing)
  | .closing .moved => (v.enter .opened .rest none now, .returnedOpen)
  | .fault _ => (v, .nothing)

/-- A report with the SHUT contact made and the OPEN contact broken, taken by the state (R22, R27, R29, R30, R31). -/
def ValveRec.reportedShut (v : ValveRec) (now : Option ClockTime) : ValveRec × ValveEvent :=
  match v.state with
  | .unknown => (v.enter .closed .rest none now, .foundClosed)
  | .closed => (v, .nothing)
  | .opening .commanded => (v, .nothing)
  | .opening .moved => (v.enter .closed .rest none now, .nothing)
  | .opened => (v.enter .closed .rest none now, .movedShut)
  | .closing .commanded => (v.enter .closed .rest none now, .closedConfirmed)
  | .closing .moved => (v.enter .closed .rest none now, .nothing)
  | .fault _ => (v, .nothing)

/-- A report with both contacts broken; `first` says whether it is the first since the cold start (R22, R29, R30, R31). -/
def ValveRec.reportedBetween (v : ValveRec) (limit : Nat) (now : Option ClockTime) (first : Bool) : ValveRec × ValveEvent :=
  match v.state with
  | .unknown => (if first then { v with timer := some limit } else v, .nothing)
  | .closed => (v.enter (.opening .moved) .rest (some limit) now, .movedOpen)
  | .opened => (v.enter (.closing .moved) .rest (some limit) now, .movedShut)
  | .opening _ => (v, .nothing)
  | .closing _ => (v, .nothing)
  | .fault _ => (v, .nothing)

/-- A contact report: both contacts are written, and the report is acted on by the valve's state (R22). -/
def ValveRec.report (v : ValveRec) (limit : Nat) (now : Option ClockTime) (openC shutC : Contact) : ValveRec × ValveEvent :=
  let first := v.openC.isNone
  let w := { v with openC := some openC, shutC := some shutC }
  match openC, shutC with
  | .made, .made => w.bothMade now
  | .made, .broken => w.reportedOpen now
  | .broken, .made => w.reportedShut now
  | .broken, .broken => w.reportedBetween limit now first

/-- The stroke timer runs out: STROKE from a stroke, TRAVEL from the search in UNKNOWN (R28). A timer that is not running
does not run out. -/
def ValveRec.expire (v : ValveRec) (now : Option ClockTime) : ValveRec × ValveEvent :=
  match v.timer, v.state with
  | none, _ => (v, .nothing)
  | some _, .opening _ => (v.enter (.fault .stroke) .rest none now, .faulted true)
  | some _, .closing _ => (v.enter (.fault .stroke) .rest none now, .faulted false)
  | some _, .unknown => (v.enter (.fault .travel) .rest none now, .faulted false)
  | some _, _ => (v, .nothing)

/-- A FAULT cleared to CLOSED, where the recorded contacts show the valve shut (R34). -/
def ValveRec.cleared (v : ValveRec) (now : Option ClockTime) : Option ValveRec :=
  match v.state with
  | .fault _ => if v.atShut then some (v.enter .closed .rest none now) else none
  | _ => none

/-- The flags an event of a valve sets: FAULT for a fault, MOVED for movement not commanded (R23, R28, R29, R30). -/
def ValveEvent.flags (e : ValveEvent) (h : HolderId) (side : Side) (s : State) : State :=
  match e with
  | .faulted _ => s.raise (.valve h side .fault)
  | .movedOpen => s.raise (.valve h side .moved)
  | .movedShut => s.raise (.valve h side .moved)
  | _ => s

/-- The stroke limit in force for a holder's valves (2.1). -/
def State.strokeLimit (s : State) (h : HolderId) : Nat := (s.holderSettings h).strokeLimit

/-- An open command given to a holder's valve (R24). The path arbiters give it at a grant alone, to an eligible holder's
valve, which stands CLOSED with its sister neither OPENING nor OPEN (R67), so that it is always carried out and never ends
at once. -/
def State.openValve (h : HolderId) (side : Side) (s : State) : State :=
  s.setValve h side
    ((s.valve h side).openCommand (s.strokeLimit h) s.now (s.valve h side.sister).state.openingOrOpen).1

end Sys2Proof.Machine
end

