-- ==== Sys2Proof/Machine/Street.lean ====
section
/-!
DEFINITION. The district governors and booster control as the other blocks meet them (8.2 to 8.7, 9.2 to 9.5): setpoint, pair
evaluation, available pressure, the clamp at once, notices both ways, the queue, the grant, and the path report.
-/
namespace Sys2Proof.Machine

/-! ### Schedule and setpoint (8.2) -/

/-- The active point of a schedule kept in ascending order: the latest at or before the minute, else the last (R138). -/
def activePoint (schedule : List SchedulePoint) (minute : Option Nat) : SchedulePoint :=
  let last := schedule.getLastD ⟨0, 0⟩
  match minute with
  | none => last
  | some m => (schedule.filter fun p => p.minute ≤ m).getLastD last

/-- The minute of day of the yard clock (R138). -/
def State.minute (s : State) : Option Nat := s.now.map fun c => c.tod / 60

/-- The active point of a district now. -/
def State.activePoint (s : State) (d : DistrictId) : SchedulePoint :=
  Sys2Proof.Machine.activePoint (s.districtSettings d).schedule s.minute

/-- The effective setpoint: the least of 150 and the active point's setpoint plus the fog lift (R138). -/
def State.setpoint (s : State) (d : DistrictId) : Nat :=
  min Config.setpointLimit ((s.activePoint d).setpoint + (s.district d).fogLift)

/-! ### The gauge pair (R142) -/

/-- A gauge counts as valid when its reading is no older than three times the period in force (R142). -/
def validGauge (period : Nat) : Option Gauge → Option Nat
  | some g => if g.age ≤ 3 * period then some g.value else none
  | none => none

/-- The outcome of a pair evaluation: the pair state and the reading (R142). -/
def evaluatePair (tolerance : Nat) : Option Nat → Option Nat → PairState × Option Nat
  | some a, some b => if (a - b) + (b - a) ≤ tolerance then (.pair, some ((a + b) / 2)) else (.disagree, none)
  | some a, none => (.singleDuty, some a)
  | none, some b => (.singleCheck, some b)
  | none, none => (.none, none)

/-- The condition of a reading against the effective setpoint and the band, on signed whole numbers (R143). -/
def conditionOf (reading : Option Nat) (setpoint band : Nat) : Condition :=
  match reading with
  | none => .unordered
  | some r => if (r : Int) < (setpoint : Int) - (band : Int) then .low
    else if r > setpoint + band then .high else .band

/-! ### Supply and available pressure (8.6) -/

/-- The unboosted available pressure of a supplied district: the supplying holder's nominal pressure less the drop, not below
0 (R147). -/
def State.unboosted (s : State) (d : DistrictId) : Option Nat :=
  (s.district d).supplying.map fun h => (s.holder h).nominal - (s.districtSettings d).governing.drop

/-- The available pressure: the head in force added when the district is boosted (R147). -/
def State.available (s : State) (d : DistrictId) : Option Nat :=
  (s.unboosted d).map fun a => if (s.district d).boosted then a + s.settings.booster.head else a

/-- The supply limit of a supplied district: the greater of its minimum and its available pressure (R144, R148). -/
def State.supplyLimit (s : State) (d : DistrictId) : Option Nat :=
  (s.available d).map fun a => max (s.districtSettings d).governing.minimum a

/-- The clamp at once: a loading above the supply limit is reduced to it, with the CLAMPED flag (R148). -/
def State.clampAtOnce (d : DistrictId) (s : State) : State :=
  match s.supplyLimit d with
  | none => s
  | some l =>
    if l < (s.district d).loading then
      (s.setDistrict d { s.district d with loading := l }).raise (.district d .clamped)
    else s

/-- A nominal pressure change of a holder, reported to the districts it supplies (R12, R147). -/
def State.nominalChanged (h : HolderId) (s : State) : State :=
  forEach DistrictId.all (fun d s => if (s.district d).supplying = some h then s.clampAtOnce d else s) s

/-! ### Notices from booster control (R151) -/

inductive Notice where
  | grant | boostBegun | boostEnded | boostLost | grantDropped | queueCleared | headChanged
  deriving DecidableEq, Repr

/-- A district's boost and request gone: boosted clear, request state NONE, release run 0, and the clamp (R151, R152). -/
def State.loseBoost (d : DistrictId) (s : State) : State :=
  (s.setDistrict d { s.district d with boosted := false, request := .none, releaseRun := 0 }).clampAtOnce d

/-- A notice taken by a district, by its request state (R151). -/
def State.notice (n : Notice) (d : DistrictId) (s : State) : State :=
  match n, (s.district d).request with
  | .grant, .queued => s.setDistrict d { s.district d with request := .granted }
  | .boostBegun, .granted => (s.setDistrict d { s.district d with boosted := true, releaseRun := 0 }).clampAtOnce d
  | .boostEnded, .granted => s.loseBoost d
  | .boostLost, .granted => s.loseBoost d
  | .grantDropped, .granted => s.setDistrict d { s.district d with request := .none }
  | .queueCleared, .queued => s.setDistrict d { s.district d with request := .none }
  | .headChanged, .granted => if (s.district d).boosted then s.clampAtOnce d else s
  | _, _ => s

/-! ### Booster control (9.2 to 9.5) -/

/-- A district becomes boosted: RUNNING, the granted district boosted, its notice, and the GRANT flag (R160, R162, R157). -/
def State.beginBoost (d : DistrictId) (s : State) : State :=
  ((s.setBooster { s.booster with state := .running, timer := none, boosted := some d }).notice .boostBegun d).raise
    .boosterGrant

/-- The booster passed on after its district has gone: to the queue head through ALIGNING, or to RUN-DOWN (R161, R162). -/
def State.passOn (s : State) : State :=
  match s.booster.queue with
  | d :: rest =>
    (s.setBooster
      { s.booster with state := .aligning, granted := some d, boosted := none, withdrawalPending := false, queue := rest,
                       timer := some s.settings.booster.alignment, start := true, selector := some d }).notice .grant d
  | [] =>
    s.setBooster
      { s.booster with state := .runDown, granted := none, boosted := none, withdrawalPending := false,
                       timer := some Config.runDownSeconds, start := false, selector := none }

/-- The running contact stands made in RUN-UP: the boost begins, or, with a withdrawal pending, the release of R161 is taken
at once (R160). -/
def State.runUpEnds (s : State) : State :=
  if s.booster.withdrawalPending then s.passOn
  else match s.booster.granted with
    | some d => s.beginBoost d
    | none => s.passOn

/-- The queue head granted from OFF; a contact already made ends the run-up at that event (R159, R160). -/
def State.grantHead (s : State) : State :=
  match s.booster.state, s.booster.queue with
  | .off, d :: rest =>
    let t := (s.setBooster
      { s.booster with state := .runUp, granted := some d, withdrawalPending := false, queue := rest,
                       timer := some s.settings.booster.runUp, start := true, selector := some d }).notice .grant d
    if t.booster.contact = some .made then t.runUpEnds else t
  | _, _ => s

/-- A request from a district: it joins the queue at its tail and is granted at once from OFF; from the granted district of a
RUN-UP with withdrawal pending it takes the withdrawal back. The queue takes no second place for a district, and none for the
granted one (R158). -/
def State.requestBooster (d : DistrictId) (s : State) : State :=
  if s.booster.state = .runUp ∧ s.booster.granted = some d ∧ s.booster.withdrawalPending then
    (s.setBooster { s.booster with withdrawalPending := false }).notice .grant d
  else if d ∈ s.booster.queue ∨ s.booster.granted = some d then s
  else (s.setBooster { s.booster with queue := s.booster.queue ++ [d] }).grantHead

/-- A withdrawal or release: out of the queue, or, from the granted district, by the state (R158, R160, R161, R162). -/
def State.withdrawBooster (d : DistrictId) (s : State) : State :=
  if d ∈ s.booster.queue then s.setBooster { s.booster with queue := s.booster.queue.filter (· ≠ d) }
  else if s.booster.granted = some d then
    match s.booster.state with
    | .runUp => s.setBooster { s.booster with withdrawalPending := true }
    | .running => ((s.setBooster { s.booster with granted := none, boosted := none }).notice .boostEnded d).passOn
    | .aligning => (s.setBooster { s.booster with granted := none }).passOn
    | .off => s
    | .runDown => s
    | .fault _ => s
  else s

/-- Entry to FAULT: STOP, selector NONE, no timer, grant and boost removed, queue kept, and the FAULT flag (R160, R163). -/
def State.boosterFaulted (cause : BoosterFault) (s : State) : State :=
  (s.setBooster
    { s.booster with state := .fault cause, granted := none, boosted := none, withdrawalPending := false, timer := none,
                     start := false, selector := none }).raise .boosterFault

/-- A notice to a district where one stands, and none where none does. -/
def State.noticeTo (n : Notice) (d : Option DistrictId) (s : State) : State :=
  match d with
  | some d => s.notice n d
  | none => s

/-- The booster disabled, or HOLD entry (R164). -/
def State.dropBooster (s : State) : State :=
  let b := s.booster
  let stopped : BoosterRec :=
    { b with state := .runDown, granted := none, boosted := none, withdrawalPending := false, queue := [],
             timer := some Config.runDownSeconds, start := false, selector := none }
  let t := match b.state with
    | .running => (s.setBooster stopped).noticeTo .boostLost b.granted
    | .runUp => (s.setBooster stopped).noticeTo .grantDropped b.granted
    | .aligning => (s.setBooster stopped).noticeTo .grantDropped b.granted
    | .off => s.setBooster { b with queue := [] }
    | .runDown => s.setBooster { b with queue := [] }
    | .fault _ => s.setBooster { b with queue := [] }
  forEach b.queue (fun d t => t.notice .queueCleared d) t

/-! ### Path reports (R66, R146, R149) -/

/-- The district left without supply: a standing request or grant is withdrawn and the loading stands (R149). -/
def State.unsupplied (d : DistrictId) (s : State) : State :=
  let r := s.district d
  match r.request with
  | .none => s.setDistrict d { r with supplying := none }
  | _ => (s.setDistrict d { r with supplying := none, request := .none, boosted := false, releaseRun := 0 }).withdrawBooster d

/-- The supplying holder a path gives its district (R146). -/
def State.supplier (s : State) (p : PathId) : Option HolderId :=
  match (s.path p).state with
  | .empty => none
  | .granted g => some g.holder
  | .changeover _ (some g) out _ => if (s.valve g.holder p.side).state = .opened then some g.holder else some out
  | .changeover _ none out _ => some out

/-- A path reported to its district governor, which works out its supplying holder and, where that changes, its available
pressure with the clamp at once; MAKE feeds no governor (R66, R146, R147, R148). -/
def State.reportPath (p : PathId) (s : State) : State :=
  match p with
  | .make => s
  | .dist d =>
    let new := s.supplier (.dist d)
    if new = (s.district d).supplying then s
    else match new with
      | none => s.unsupplied d
      | some h => (s.setDistrict d { s.district d with supplying := some h }).clampAtOnce d

end Sys2Proof.Machine
end

