-- ==== Sys2Proof/Machine/Orders.lean ====
section
/-!
DEFINITION. Order records (chapter 3) and holder proving (chapter 5): counting, the end of an order and its finished record,
promotion, the beginning and the outcome of a proving. What the path arbiters make of these stands in Paths.lean.
-/
namespace Sys2Proof.Machine

/-- The kind of a transfer order: FILL on MAKE, DRAW on a district path (R40). -/
def Transfer.kind (t : Transfer) : OrderKind :=
  match t.path with
  | .make => .fill
  | .dist _ => .draw

/-- The kind of an order (R39). -/
def Order.kind (o : Order) : OrderKind :=
  match o.body with
  | .transfer t => t.kind
  | .proving _ => .prove

/-- The path of an order, absent for PROVE (R39). -/
def Order.path (o : Order) : Option PathId :=
  match o.body with
  | .transfer t => some t.path
  | .proving _ => none

/-- The quantity of an order; for PROVE, its tolerance (R39). -/
def Order.quantity (o : Order) : Nat :=
  match o.body with
  | .transfer t => t.quantity
  | .proving p => p.tolerance

/-- The end due of an order, if any (R39). -/
def Order.endDue (o : Order) : Option EndDue :=
  match o.body with
  | .transfer t => t.endDue
  | .proving _ => none

/-- The outgoing mark of an order (R39). -/
def Order.outgoing (o : Order) : Bool :=
  match o.body with
  | .transfer t => t.outgoing
  | .proving _ => false

/-- An order that counts deltas: RUNNING or OVERRUN (R38). -/
def Order.counting (o : Order) : Bool := o.state == .running || o.state == .overrun

/-- A transfer order with its load values (R39). -/
def Order.newTransfer (tag : Nat) (path : PathId) (quantity : Nat) (atCount : AtCount) (step : Option Nat) : Order where
  tag := tag
  state := .ready
  start := none
  body := .transfer
    { path := path, quantity := quantity, atCount := atCount, tallyStep := step, moved := 0, toGo := quantity, overrun := 0,
      backflow := 0, tallyCount := 0, endDue := none, outgoing := false }

/-- A proving order with its load values (R39, R42). -/
def Order.newProving (tag tolerance period : Nat) : Order where
  tag := tag
  state := .ready
  start := none
  body := .proving { tolerance := tolerance, period := period, startStock := none, timer := none }

/-- A live order of some holder carries the tag (R38, R40). -/
def State.tagLive (s : State) (tag : Nat) : Bool :=
  HolderId.all.any fun h => ((s.active h).any fun o => o.tag == tag) || ((s.followOn h).any fun o => o.tag == tag)

/-! ### Counting (3.4) -/

/-- The tally count of a movement: floor(moved / step), 0 with no step (R47). -/
def tallyOf (step : Option Nat) (moved : Nat) : Nat :=
  match step with
  | some k => moved / k
  | none => 0

/-- A movement applied to the counting fields (R46, R47). -/
def Transfer.move (t : Transfer) (m : Nat) : Transfer :=
  let moved := t.moved + m
  let u := { t with moved := moved, tallyCount := tallyOf t.tallyStep moved }
  if m ≤ t.toGo then { u with toGo := t.toGo - m }
  else { u with overrun := t.overrun + (m - t.toGo), toGo := 0 }

/-- The movement in the order's direction that a delta is, if it is one: up for a FILL, down for a DRAW (R46). -/
def Transfer.forward (t : Transfer) (delta : Int) : Option Nat :=
  match t.kind with
  | .fill => if 0 < delta then some delta.natAbs else none
  | _ => if delta < 0 then some delta.natAbs else none

/-- A nonzero delta counted: movement, or backflow against the order's direction (R46). -/
def Transfer.count (t : Transfer) (delta : Int) : Transfer :=
  match t.forward delta with
  | some m => t.move m
  | none => { t with backflow := t.backflow + delta.natAbs }

/-- The state after a count: a RUNNING order whose to-go a movement brings to 0 becomes OVERRUN (R48). -/
def countedState (st : OrderState) (t : Transfer) (moved : Bool) : OrderState :=
  if st = .running ∧ moved ∧ t.toGo = 0 then .overrun else st

/-- A delta counted to the holder's active order, with the TALLY flag when the tally count rises (R46, R47, R48). -/
def State.countDelta (h : HolderId) (delta : Int) (s : State) : State :=
  match s.active h with
  | some o => match o.body with
    | .transfer t =>
      let u := t.count delta
      let s' := s.setActive h
        (some { o with state := countedState o.state u (t.forward delta).isSome, body := .transfer u })
      if t.tallyCount < u.tallyCount then s'.raise (.order h .tally) else s'
    | .proving _ => s
  | none => s

/-- An order stands yielding: OVERRUN and HAND, not outgoing, with no end due (R48). -/
def Order.yielding (o : Order) : Bool :=
  match o.body with
  | .transfer t => o.state == .overrun && t.atCount == .hand && !t.outgoing && t.endDue.isNone
  | .proving _ => false

/-! ### The end of an order (3.7 to 3.9) -/

/-- The finished record of an order at its end (R56, R97). -/
def Order.finish (o : Order) (h : HolderId) (cause : Cause) (ended : Option ClockTime) (endStock : Option Nat)
    (loss : Option Int) : Finished :=
  match o.body with
  | .transfer t =>
    { tag := o.tag, holder := h, kind := t.kind, path := some t.path, quantity := t.quantity, cause := cause, moved := t.moved,
      overrun := t.overrun, backflow := t.backflow, tallyCount := t.tallyCount, start := o.start, ended := ended,
      startStock := none, endStock := none, loss := none }
  | .proving p =>
    { tag := o.tag, holder := h, kind := .prove, path := none, quantity := p.tolerance, cause := cause, moved := 0,
      overrun := 0, backflow := 0, tallyCount := 0, start := o.start, ended := ended, startStock := p.startStock,
      endStock := endStock, loss := loss }

/-- A record appended to the finished list; with 16 held the oldest is discarded first and OVERFLOW set (R57). -/
def State.appendFinished (r : Finished) (s : State) : State :=
  if s.finished.length < Config.finishedCapacity then { s with finished := s.finished ++ [r] }
  else ({ s with finished := s.finished.tail ++ [r] }).raise .overflow

/-- The follow-on moved into the active slot, READY, with the PROMOTED flag (R59). -/
def State.promote (h : HolderId) (s : State) : State :=
  match s.followOn h with
  | none => s
  | some f => (s.setSlots h ⟨some { f with state := .ready }, none⟩).raise (.order h .promoted)

/-- The active order ended: record, removal, append and promotion, in that order (R55, steps 1 to 4). -/
def State.closeOrder (cause : Cause) (endStock : Option Nat) (loss : Option Int) (h : HolderId) (s : State) : State :=
  match s.active h with
  | none => s
  | some o => ((s.setActive h none).appendFinished (o.finish h cause s.now endStock loss)).promote h

/-! ### Beginning a proving (5.2) -/

/-- The holder is granted or outgoing on the path. -/
def PathState.holds (st : PathState) (h : HolderId) : Bool :=
  match st with
  | .empty => false
  | .granted g => g.holder == h
  | .changeover _ g out _ => out == h || g.any fun g => g.holder == h

/-- The holder is granted or outgoing on some path (R67, R90). -/
def State.onPath (s : State) (h : HolderId) : Bool := PathId.all.any fun p => (s.path p).state.holds h

/-- The conditions to begin proving: both valves CLOSED, no path held, not LOST (R90). -/
def State.isolated (s : State) (h : HolderId) : Bool :=
  (s.valve h .inlet).state == .closed && (s.valve h .outlet).state == .closed && !s.onPath h && !(s.holder h).lost

/-- A proving order started from its start stock (R91, R89). -/
def Proving.begin (p : Proving) (stock : Nat) : Proving := { p with startStock := some stock, timer := some (p.period * 60) }

/-- One look for the conditions of R90: a READY PROVE order of an isolated holder becomes PROVING, or ends INCOMPLETE where
its stock is unavailable (R91). -/
def State.provingLookOnce (h : HolderId) (s : State) : State :=
  match s.active h with
  | some o => match o.state, o.body with
    | .ready, .proving p =>
      if s.isolated h then
        match s.stock h with
        | some k => (s.keepStock h k).setActive h
            (some { o with state := .proving, start := s.now, body := .proving (p.begin k) })
        | none => s.closeOrder .incomplete none none h
      else s
    | _, _ => s
  | none => s

/-- The look for the conditions of R90, with the look at a PROVE order promoted behind one that ended INCOMPLETE (R55 step 5,
R59, R97). A second order cannot stand behind the promoted one, so two looks are all there can be. Where in a larger event it is made is
log entry 33 (DEDUCED). -/
def State.provingLook (h : HolderId) (s : State) : State := (s.provingLookOnce h).provingLookOnce h

/-- The end of an order with whatever cause, and the look at a promoted PROVE order (R55). -/
def State.endActive (cause : Cause) (h : HolderId) (s : State) : State :=
  (s.closeOrder cause none none h).provingLook h

/-! ### The outcome of a proving (5.4) -/

/-- The proving timer of a PROVING order runs out (R96). -/
def State.provingOutcome (h : HolderId) (s : State) : State :=
  match s.active h with
  | some o => match o.state, o.body with
    | .proving, .proving p =>
      match s.stock h with
      | none => s.endActive .incomplete h
      | some k =>
        let loss : Int := (p.startStock.getD 0 : Int) - (k : Int)
        let cause : Cause := if loss ≤ (p.tolerance : Int) then .pass else .leak
        ((s.keepStock h k).closeOrder cause (some k) (some loss) h).provingLook h
    | _, _ => s
  | none => s

/-- A PROVING order ended INCOMPLETE by an event of its holder; any other active order stands (R93, R94). -/
def State.provingBroken (h : HolderId) (s : State) : State :=
  match s.active h with
  | some o => if o.state = .proving then s.endActive .incomplete h else s
  | none => s

end Sys2Proof.Machine
end

