-- ==== Sys2Proof/Machine/Paths.lean ====
section
/-!
DEFINITION. The path arbiters (chapter 4) with what their work does to orders: eligibility and choice, start, changeover,
continuation, take-over, adoption, ends put to them, and the events of the valve drives. Nothing here runs a second time within
one event: each definition calls only those above it.
-/
namespace Sys2Proof.Machine

/-! ### Reading a path record (4.1) -/

def PathState.grant : PathState → Option Grant
  | .empty => none
  | .granted g => some g
  | .changeover _ g _ _ => g

def PathState.outgoing : PathState → Option HolderId
  | .changeover _ _ out _ => some out
  | _ => none

def PathState.stage : PathState → Option Stage
  | .changeover st _ _ _ => some st
  | _ => none

def PathState.cause : PathState → Option EndDue
  | .changeover _ _ _ c => c
  | _ => none

/-- What a holder is to a path. -/
inductive Role where
  | none
  | granted (kind : GrantKind)
  | successor (kind : GrantKind)
  | servedSecond (kind : GrantKind)
  | outgoingFirst
  | outgoingSecond
  deriving DecidableEq, Repr

/-- The role of a holder on a path: the granted holder in GRANTED, in stage FIRST or in stage SECOND, or the outgoing holder of
either stage. -/
def PathState.role (st : PathState) (h : HolderId) : Role :=
  match st with
  | .empty => .none
  | .granted g => if g.holder = h then .granted g.kind else .none
  | .changeover stage g out _ =>
    if out = h then (match stage with | .first => .outgoingFirst | .second => .outgoingSecond)
    else match g with
      | some g => if g.holder = h then (match stage with | .first => .successor g.kind | .second => .servedSecond g.kind)
        else .none
      | none => .none

/-- The paths a valve of the given side can serve (2.1, R64). -/
def pathsOf : Side → List PathId
  | .inlet => [.make]
  | .outlet => [.dist .d1, .dist .d2, .dist .d3, .dist .d4]

/-- The path that a holder's valve serves: the one on which the holder is granted or outgoing (R64). -/
def State.servedBy (s : State) (h : HolderId) (side : Side) : Option PathId :=
  (pathsOf side).find? fun p => (s.path p).state.holds h

/-! ### Eligibility and choice (4.2) -/

/-- The stop state that bars a holder from a path: AT-TOP for a FILL, AT-LOW for a DRAW (R67). -/
def HolderRec.atStop (r : HolderRec) (p : PathId) : Bool :=
  match p with
  | .make => r.atTop
  | .dist _ => r.atLow

/-- The holder's active order is a READY FILL or DRAW that names the path (R67, R80). -/
def State.readyOn (s : State) (h : HolderId) (p : PathId) : Bool :=
  (s.active h).any fun o => o.state == .ready && o.path == some p

/-- A holder is eligible for a path (R67). -/
def State.eligible (s : State) (p : PathId) (h : HolderId) : Bool :=
  s.readyOn h p &&
  s.yard.mode == .run &&
  (s.holderSettings h).service == .inService &&
  !(s.holder h).lost &&
  !(s.holder h).atStop p &&
  (s.valve h p.side).state == .closed &&
  !(s.valve h p.side.sister).state.openingOrOpen &&
  !s.onPath h

/-- The order in which a path searches the holders, by its priority mode (R69). -/
def searchOrder (mode : Priority) (lastServed : Option HolderId) : List HolderId :=
  match mode, lastServed with
  | .rotating, some h => h.rotation
  | _, _ => HolderId.all

/-- The holder a choice takes among those eligible (R69). -/
def State.choose (s : State) (p : PathId) : Option HolderId :=
  (searchOrder (s.settings.priority.get p) (s.path p).lastServed).find? fun h => s.eligible p h

/-! ### Small changes of orders and paths -/

/-- The holder's order made STARTING (R43). -/
def State.startOrder (h : HolderId) (s : State) : State :=
  match s.active h with
  | some o => s.setActive h (some { o with state := .starting })
  | none => s

/-- The holder's order made RUNNING, with its start time, and the trailing movement reset (R44, R45, R16). -/
def State.runOrder (h : HolderId) (s : State) : State :=
  match s.active h with
  | some o => (s.setActive h (some { o with state := .running, start := s.now })).setHolder h
      { s.holder h with trailing := 0 }
  | none => s

/-- A change of the fields of the holder's transfer order, if it has one. -/
def State.updateTransfer (f : Transfer → Transfer) (h : HolderId) (s : State) : State :=
  match s.active h with
  | some o => match o.body with
    | .transfer t => s.setActive h (some { o with body := .transfer (f t) })
    | .proving _ => s
  | none => s

/-- The holder has a running order marked outgoing (R51). -/
def State.hasOutgoing (s : State) (h : HolderId) : Bool := (s.active h).any Order.outgoing

/-- The unserved state and the UNSERVED flag of a path (R72, R75, R76, R77, R82). -/
def State.markUnserved (p : PathId) (s : State) : State :=
  (s.setPath p { s.path p with unserved := true }).raise (.path p .unserved)

/-- The path is served by an order that begins to run: last served and unserved (R69, R70, R74, R79, R80). -/
def State.markServed (p : PathId) (h : HolderId) (s : State) : State :=
  s.setPath p { s.path p with lastServed := some h, unserved := false }

/-- The end of stage SECOND at a closed confirmed of the outgoing valve (R78). -/
def State.endSecond (h : HolderId) (side : Side) (s : State) : State :=
  match s.servedBy h side with
  | some p => match (s.path p).state with
    | .changeover .second g out _ =>
      if out = h then
        (s.setPathState p (match g with | some g => .granted g | none => .empty)).reportPath p
      else s
    | _ => s
  | none => s

/-- A closed confirmed event: the path arbiters end stage SECOND (R78) and the order slots look at a PROVE order (R90). -/
def State.closedConfirmed (h : HolderId) (side : Side) (s : State) : State := (s.endSecond h side).provingLook h

/-- A close command given to a holder's valve (R25); a stroke that ends at once passes its closed confirmed (R27). -/
def State.closeValve (h : HolderId) (side : Side) (s : State) : State :=
  let r := (s.valve h side).closeCommand (s.strokeLimit h) s.now
  let t := s.setValve h side r.1
  if r.2 = .strokeEnded then t.closedConfirmed h side else t

/-! ### Grants (4.3, 4.5) -/

/-- A start on an empty path (R70, R43). -/
def State.startOnEmpty (p : PathId) (h : HolderId) (s : State) : State :=
  (((s.setPathState p (.granted ⟨h, .ordered⟩)).startOrder h).openValve h p.side).reportPath p

/-- The outgoing mark set on a counting order (R50, R73). -/
def State.markOutgoing (h : HolderId) (s : State) : State :=
  if (s.active h).any Order.counting then s.updateTransfer (fun t => { t with outgoing := true }) h else s

/-- A hand-over begun from a GRANTED path to a successor (R73); `cause` is absent for a give-way hand-over. -/
def State.beginChangeover (p : PathId) (out succ : HolderId) (cause : Option EndDue) (s : State) : State :=
  ((((s.setPathState p (.changeover .first (some ⟨succ, .ordered⟩) out cause)).startOrder succ).markOutgoing out).openValve
    succ p.side).reportPath p

/-! ### Holders removed from a path -/

/-- The path EMPTY, unserved, and its holder's valve closed (R72, R77, R82). -/
def State.emptyUnserved (p : PathId) (h : HolderId) (s : State) : State :=
  ((((s.setPathState p .empty).markUnserved p).reportPath p).closeValve h p.side).provingLook h

/-- The granted holder of stage SECOND removed, unserved, and its valve closed (R72, R77, R78, R82). -/
def State.dropSecond (p : PathId) (h : HolderId) (s : State) : State :=
  match (s.path p).state with
  | .changeover stage _ out cause =>
    ((((s.setPathState p (.changeover stage none out cause)).markUnserved p).reportPath p).closeValve h p.side).provingLook h
  | _ => s

/-- A start that failed before its valve confirmed open: the path EMPTY, its unserved state as it was (R71). -/
def State.startFailed (p : PathId) (h : HolderId) (s : State) : State :=
  (((s.setPathState p .empty).reportPath p).closeValve h p.side).provingLook h

/-- The outgoing order of a completed or abandoned changeover ends with its end due, or with the cause given where it has none
(R51). -/
def State.endOutgoing (fallback : Cause) (h : HolderId) (s : State) : State :=
  match s.active h with
  | some o =>
    if o.outgoing then
      s.endActive (match o.endDue with | some d => d.cause | none => fallback) h
    else s
  | none => s

/-- A changeover abandoned for want of a successor: back to the outgoing holder where no cause stands, emptied where one does
(R75, R51). -/
def State.abandon (p : PathId) (out : HolderId) (cause : Option EndDue) (s : State) : State :=
  match cause with
  | none =>
    let kind : GrantKind := if s.hasOutgoing out then .ordered else .adopted
    ((s.setPathState p (.granted ⟨out, kind⟩)).updateTransfer (fun t => { t with outgoing := false }) out).reportPath p
  | some c => (s.endOutgoing c.cause out).emptyUnserved p out

/-- The successor of stage FIRST removed: its valve closed, then the next eligible holder, or the changeover abandoned
(R75). The look at its PROVE order comes at the removal, before the rest of the event (DEDUCED, log entry 33). -/
def State.failSuccessor (p : PathId) (h : HolderId) (s : State) : State :=
  match (s.path p).state with
  | .changeover stage _ out cause =>
    let t := ((s.setPathState p (.changeover stage none out cause)).closeValve h p.side).provingLook h
    match t.choose p with
    | some n =>
      (((t.setPathState p (.changeover .first (some ⟨n, .ordered⟩) out cause)).startOrder n).openValve n p.side).reportPath p
    | none => t.abandon p out cause
  | _ => s

/-- The outgoing holder of stage FIRST removed: the successor stands granted and the path is unserved (R76). -/
def State.outgoingLost (p : PathId) (h : HolderId) (s : State) : State :=
  match (s.path p).state with
  | .changeover _ g _ _ =>
    ((((s.setPathState p (match g with | some g => .granted g | none => .empty)).markUnserved p).reportPath p).closeValve h
      p.side).provingLook h
  | _ => s

/-! ### Ends put to the path arbiters (4.4) -/

/-- End at once: the order ends with its end due, its valve is closed, and the path loses it, unserved (R72 case 3). -/
def State.endAtOnce (due : EndDue) (p : PathId) (h : HolderId) (s : State) : State :=
  let t := s.endActive due.cause h
  match (t.path p).state.role h with
  | .granted _ => t.emptyUnserved p h
  | .servedSecond _ => t.dropSecond p h
  | _ => (t.closeValve h p.side).provingLook h

/-- A forced end of the path's granted order: handed over where the path is GRANTED and a holder is eligible, else ended at
once (R72 cases 2 and 3). The end due is already written. -/
def State.handOverOrEnd (due : EndDue) (p : PathId) (h : HolderId) (s : State) : State :=
  match (s.path p).state.role h, s.choose p with
  | .granted _, some n => s.beginChangeover p h n (some due)
  | _, _ => s.endAtOnce due p h

/-- The outgoing cause of the path on which the holder is outgoing in stage FIRST, written where none stands (R76). -/
def State.writeCause (due : EndDue) (p : PathId) (h : HolderId) (s : State) : State :=
  match (s.path p).state with
  | .changeover .first g out none =>
    if out = h then s.setPathState p (.changeover .first g out (some due)) else s
  | _ => s

/-- A stop or loss trigger that reaches a RUNNING or OVERRUN order: written and put to the arbiters, or, for an outgoing order
with no end due, written as end due and outgoing cause (R49, R50, R51). -/
def State.forceEnd (due : EndDue) (h : HolderId) (s : State) : State :=
  match s.active h with
  | some o => match o.body with
    | .transfer t =>
      if o.counting then
        if t.outgoing then
          if t.endDue.isNone then
            (s.updateTransfer (fun t => { t with endDue := some due }) h).writeCause due t.path h
          else s
        else (s.updateTransfer (fun t => { t with endDue := some due }) h).handOverOrEnd due t.path h
      else s
    | .proving _ => s
  | none => s

/-- The stop check made when an order begins to run: a FILL at its top stop, or a DRAW at its low stop, is triggered at once
(R44 step 4, R45). -/
def State.stopCheck (h : HolderId) (s : State) : State :=
  match s.active h with
  | some o => match o.path with
    | some .make => if (s.holder h).atTop then s.forceEnd .topped h else s
    | some (.dist _) => if (s.holder h).atLow then s.forceEnd .lowed h else s
    | none => s
  | none => s

/-! ### Continuation and take-over (4.6) -/

/-- The holder's follow-on is a PENDING order of the same kind on the same path (R72, R79). A path fixes the kind. -/
def State.followsOn (s : State) (h : HolderId) (p : PathId) : Bool := (s.followOn h).any fun o => o.path == some p

/-- A continuation: the active order ends CONTINUED and its follow-on runs at once, the grant staying (R52, R79). -/
def State.continueOrder (p : PathId) (h : HolderId) (s : State) : State :=
  (((s.closeOrder .continued none none h).runOrder h).setPath p
    { s.path p with lastServed := some h }).stopCheck h

/-- A take-over of an ADOPTED grant by its own holder's READY order (R80, R45). -/
def State.takeOver (p : PathId) (h : HolderId) (s : State) : State :=
  ((((s.setPathState p (.granted ⟨h, .ordered⟩)).runOrder h).markServed p h).reportPath p).stopCheck h

/-- The END of a RUNNING or OVERRUN order that is not outgoing: continuation first (R53, R72). -/
def State.putEnded (h : HolderId) (s : State) : State :=
  match s.active h with
  | some o => match o.body with
    | .transfer t =>
      if !t.outgoing && s.followsOn h t.path then
        (s.updateTransfer (fun t => { t with endDue := some .ended }) h).continueOrder t.path h
      else s.forceEnd .ended h
    | .proving _ => s
  | none => s

/-! ### The choice (R68) -/

/-- The choice made on one path (R68). -/
def State.choiceOn (p : PathId) (s : State) : State :=
  match (s.path p).state with
  | .empty => match s.choose p with
    | some h => s.startOnEmpty p h
    | none => s
  | .granted ⟨h, .adopted⟩ =>
    if s.yard.mode = .run ∧ s.readyOn h p then s.takeOver p h
    else match s.choose p with
      | some n => s.beginChangeover p h n none
      | none => s
  | .granted ⟨h, .ordered⟩ =>
    if (s.active h).any Order.yielding then
      if s.followsOn h p then s.continueOrder p h
      else match s.choose p with
        | some n => s.beginChangeover p h n none
        | none => s
    else s
  | .changeover _ _ _ _ => s

/-- The choices of one event, at its end: each path in turn, and each once more, since a take-over that ends at once at its holder's
low stop promotes a FILL whose path was passed already, and R68 grants it at this event. One more turn is enough: a path's choice can
make no holder but its own eligible, and that one only for a path on the other side, since its stop bars this one (DEDUCED, log entry
11). -/
def State.choices (s : State) : State := forEach (PathId.all ++ PathId.all) State.choiceOn s

/-! ### Stops and losses of an adopted flow (R76, R82) -/

/-- A stop entered or a height lost, reported for the valve's path: it reaches an ADOPTED flow; an ORDERED grant takes it
through its order (R76, R82). -/
def State.adoptedTrigger (due : EndDue) (h : HolderId) (side : Side) (s : State) : State :=
  match s.servedBy h side with
  | none => s
  | some p => match (s.path p).state.role h with
    | .granted .adopted => match s.choose p with
      | some n => s.beginChangeover p h n (some due)
      | none => s.emptyUnserved p h
    | .successor .adopted => s.failSuccessor p h
    | .servedSecond .adopted => s.dropSecond p h
    | .outgoingFirst => if s.hasOutgoing h then s else s.writeCause due p h
    | _ => s

/-! ### Service OUT (R5, R82) -/

/-- A holder taken out of service: off every path by its role there (R82). -/
def State.serviceOutOn (p : PathId) (h : HolderId) (s : State) : State :=
  match (s.path p).state.role h with
  | .none => s
  | .granted _ => s.emptyUnserved p h
  | .successor _ => s.failSuccessor p h
  | .servedSecond _ => s.dropSecond p h
  | .outgoingFirst => s.outgoingLost p h
  | .outgoingSecond => s

/-- A holder taken out of service: its grant removed and both its valves closed (R5, R82). -/
def State.serviceOut (h : HolderId) (s : State) : State :=
  ((forEach PathId.all (fun p s => s.serviceOutOn p h) s).closeValve h .inlet).closeValve h .outlet

/-! ### Events of the valve drives (chapters 2 to 5) -/

/-- The order of which the valve is the order's valve: the active FILL or DRAW whose path the side serves (R43). -/
def State.ordersValve (s : State) (h : HolderId) (side : Side) : Option Order :=
  match s.active h with
  | some o => match o.path with
    | some p => if p.side = side then some o else none
    | none => none
  | none => none

/-- The end of stage FIRST at the successor's open confirmed (R74). -/
def State.endFirst (p : PathId) (h : HolderId) (s : State) : State :=
  match (s.path p).state with
  | .changeover _ g out cause =>
    (((((s.setPathState p (.changeover .second g out cause)).markServed p h).reportPath p).closeValve out p.side).endOutgoing
      .handed out).provingLook out
  | _ => s

/-- An open confirmed event (R44, R70, R74, R88). -/
def State.openConfirmed (h : HolderId) (side : Side) (s : State) : State :=
  let starts := (s.ordersValve h side).any fun o => o.state == .starting
  let t := if starts then s.runOrder h else s
  let u := match t.servedBy h side with
    | none => t
    | some p => match (t.path p).state.role h with
      | .granted _ => if starts then (t.markServed p h).reportPath p else t.reportPath p
      | .successor kind => if starts || kind == .adopted then t.endFirst p h else t.reportPath p
      | _ => t.reportPath p
  if starts then u.stopCheck h else u

/-- The order a valve lost to a fault or a movement ends, cause VALVE: STARTING for a fault only, RUNNING and OVERRUN for both
(R49). -/
def State.endForValve (h : HolderId) (side : Side) (fault : Bool) (s : State) : State :=
  match s.ordersValve h side with
  | some o => if o.counting || (fault && o.state == .starting) then s.endActive .valve h else s
  | none => s

/-- What a fault or a moved shut of a holder's valve does to the path it serves (R71, R75, R76, R77, R78, R88). `unopened` says
that the valve had not been confirmed open for the grant. -/
def State.valveLostOn (p : PathId) (h : HolderId) (unopened : Bool) (s : State) : State :=
  match (s.path p).state.role h with
  | .none => s
  | .granted _ => if unopened then s.startFailed p h else s.emptyUnserved p h
  | .successor _ => s.failSuccessor p h
  | .servedSecond _ => s.dropSecond p h
  | .outgoingFirst => s.outgoingLost p h
  | .outgoingSecond => s.reportPath p

/-- A valve fault event (R23, R28, R49, R93). -/
def State.valveFaulted (h : HolderId) (side : Side) (wasOpening : Bool) (s : State) : State :=
  let starting := (s.ordersValve h side).any fun o => o.state == .starting
  let counting := (s.ordersValve h side).any Order.counting
  let t := (s.provingBroken h).endForValve h side true
  match t.servedBy h side with
  | some p => t.valveLostOn p h (starting || (wasOpening && !counting))
  | none => t

/-- A moved shut event (R30, R49, R76, R77, R78). A valve off every path is closed, as R30 has the path arbiters do. -/
def State.movedShut (h : HolderId) (side : Side) (s : State) : State :=
  let t := s.endForValve h side false
  match t.servedBy h side with
  | some p => t.valveLostOn p h false
  | none => t.closeValve h side

/-- A moved open event: a PROVING order ends INCOMPLETE, and a valve with no grant on its path is closed (R29, R83, R93). -/
def State.movedOpen (h : HolderId) (side : Side) (s : State) : State :=
  let t := s.provingBroken h
  match t.servedBy h side with
  | some _ => t
  | none => t.closeValve h side

/-- The path free to take an adopted flow: MAKE, or the lowest-numbered EMPTY district path (R81). -/
def State.freePath (s : State) (side : Side) : Option PathId :=
  (pathsOf side).find? fun p => (s.path p).state == .empty

/-- The conditions of an adoption that concern the holder (R81). -/
def State.adoptable (s : State) (h : HolderId) (side : Side) : Bool :=
  s.yard.mode == .survey &&
  (s.holderSettings h).service == .inService &&
  !(s.holder h).lost &&
  !((s.active h).any fun o => o.kind == .prove) &&
  !(match side with | .inlet => (s.holder h).atTop | .outlet => (s.holder h).atLow) &&
  !(s.valve h side.sister).state.openingOrOpen &&
  !s.onPath h

/-- A found open event: the flow adopted, or the valve closed (R31, R81). -/
def State.foundOpen (h : HolderId) (side : Side) (s : State) : State :=
  match s.adoptable h side, s.freePath side with
  | true, some p => ((s.setPathState p (.granted ⟨h, .adopted⟩)).raise (.path p .adopted)).reportPath p
  | _, _ => s.closeValve h side

/-- A moved valve that returned to OPEN: closed again when its holder is outgoing in stage SECOND (R30, R78). -/
def State.returnedOpen (h : HolderId) (side : Side) (s : State) : State :=
  match s.servedBy h side with
  | some p => if (s.path p).state.role h = .outgoingSecond then s.closeValve h side else s
  | none => s

/-- An event of the valve drives taken by the path arbiters and the order slots. -/
def State.valveEvent (e : ValveEvent) (h : HolderId) (side : Side) (s : State) : State :=
  match e with
  | .nothing => s
  | .openConfirmed => s.openConfirmed h side
  | .closedConfirmed => s.closedConfirmed h side
  | .faulted wasOpening => s.valveFaulted h side wasOpening
  | .movedOpen => s.movedOpen h side
  | .movedShut => s.movedShut h side
  | .foundOpen => s.foundOpen h side
  | .foundClosed => s.provingLook h
  | .returnedOpen => s.returnedOpen h side

/-- What the valve drives made of a valve, written, with its flags, and its event passed on (R22, R28). -/
def State.takeValve (r : ValveRec × ValveEvent) (h : HolderId) (side : Side) (s : State) : State :=
  (r.2.flags h side (s.setValve h side r.1)).valveEvent r.2 h side

/-! ### Ends by request, loss and HOLD -/

/-- A STARTING order ended at once, and its path (R53, R71, R75). -/
def State.endStarting (cause : Cause) (h : HolderId) (s : State) : State :=
  match s.active h with
  | some o => match o.path with
    | some p => (s.endActive cause h).valveLostOn p h true
    | none => s
  | none => s

/-- The loss of a holder's height, taken by the order slots and the path arbiters (R8, R49, R82, R94). -/
def State.heightLost (h : HolderId) (s : State) : State :=
  let t := match s.active h with
    | some o => match o.state with
      | .starting => s.endStarting .lost h
      | .running => s.forceEnd .lost h
      | .overrun => s.forceEnd .lost h
      | .proving => s.provingBroken h
      | .ready => s
      | .pending => s
    | none => s
  (t.adoptedTrigger .lost h .inlet).adoptedTrigger .lost h .outlet

/-- The STARTING, RUNNING or OVERRUN order of a holder ended HOLD (R60). -/
def State.holdOrder (h : HolderId) (s : State) : State :=
  match s.active h with
  | some o => if o.counting || o.state == .starting then s.closeOrder .hold none none h else s
  | none => s

/-- A valve closed at HOLD entry where it stands OPEN, OPENING, or CLOSING of origin MOVED (R32). -/
def State.holdValve (h : HolderId) (side : Side) (s : State) : State :=
  match (s.valve h side).state with
  | .opened => s.closeValve h side
  | .opening _ => s.closeValve h side
  | .closing .moved => s.closeValve h side
  | _ => s

/-- A path emptied at HOLD entry, its last served and unserved state standing, and reported (R84). -/
def State.holdPath (p : PathId) (s : State) : State := (s.setPathState p .empty).reportPath p

/-- HOLD entry, one yard event: orders ended, paths emptied, valves closed, the booster dropped, and the PROVE orders of the
released holders looked at (R171, R60, R84, R32, R164, R90). That the blocks take it in this order, each for the whole yard, and the looks
of R90 come after them all, is a DESIGN CHOICE (log entry 34): R32 leaves the order open. -/
def State.holdEntry (s : State) : State :=
  let t := ({ s with yard := { s.yard with mode := .hold } }).raise (.yard .mode)
  let t := forEach HolderId.all State.holdOrder t
  let t := forEach PathId.all State.holdPath t
  let t := forEach HolderId.all (fun h t => (t.holdValve h .inlet).holdValve h .outlet) t
  let t := t.dropBooster
  forEach HolderId.all State.provingLook t

end Sys2Proof.Machine
end

