-- ==== Sys2Proof/Machine/Holders.lean ====
section
/-!
DEFINITION. The holder table (chapter 1): volume, cupping, carried lifts and nominal pressure from a crown height, the stop zones,
the routing of deltas, and a valid height reading taken as one event.
-/
namespace Sys2Proof.Machine

/-! ### Geometry (1.2, 1.6, 1.7) -/

/-- Total travel b_n (1.1). -/
def totalTravel (g : List Lift) : Nat := (g.map Lift.travel).sum

/-- The inner boundaries b_1 to b_(n-1), each a cumulative travel above `base` (1.1). -/
def boundaries (base : Nat) : List Lift → List Nat
  | [] => []
  | [_] => []
  | l :: ls => (base + l.travel) :: boundaries (base + l.travel) ls

/-- The volume at a crown height: each lift gives its volume per inch over the part of its travel below the crown (R10). -/
def volumeAt : List Lift → Nat → Nat
  | [], _ => 0
  | l :: ls, h => l.perInch * min h l.travel + volumeAt ls (h - l.travel)

/-- The cupped flags of a first reading (R11). -/
def cuppedFirst (bs : List Nat) (h : Nat) : List Bool := bs.map fun b => decide (b ≤ h)

/-- One cupped flag at a reading that is not a first one, with its hysteresis (R11). -/
def cuppedNext (h b : Nat) (old : Bool) : Bool :=
  if b + Config.cupMargin ≤ h then true else if h + Config.cupMargin ≤ b then false else old

/-- The cupped flags of a valid reading, before landing (R11). -/
def cuppedAt (first : Bool) (bs : List Nat) (h : Nat) (old : List Bool) : List Bool :=
  if first then cuppedFirst bs h else List.zipWith (cuppedNext h) bs old

/-- The carried lifts: none when landed, else one more than the set cupped flags (R12). -/
def carriedAt (h : Nat) (cupped : List Bool) : Nat := if h ≤ Config.landedHeight then 0 else 1 + cupped.count true

/-- The nominal pressure of the carried lifts: p_1 + … + p_c (R12). -/
def nominalOf (g : List Lift) (c : Nat) : Nat := ((g.take c).map Lift.step).sum

/-- A holder's cupping, carried lifts and nominal pressure at a height; landing clears every cupped flag (R11, R12). -/
def HolderRec.shape (r : HolderRec) (g : List Lift) (first : Bool) (h : Nat) : HolderRec :=
  let raw := cuppedAt first (boundaries 0 g) h r.cupped
  let cupped := if h ≤ Config.landedHeight then raw.map fun _ => false else raw
  { r with cupped := cupped, carried := some (carriedAt h cupped), nominal := nominalOf g (carriedAt h cupped) }

/-- A holder recomputed from its present height as at a first reading, with new geometry (R3 step 2). With no height present it takes one
clear flag for each inner boundary, on which R3 is silent (DEDUCED, log entry 32). -/
def HolderRec.recompute (r : HolderRec) (g : List Lift) : HolderRec :=
  match r.height with
  | some h => ({ r with volume := some (volumeAt g h) }).shape g true h
  | none => { r with cupped := List.replicate (g.length - 1) false }

/-- A lift within the ranges of the holder record table (1.1). -/
def Lift.inRange (l : Lift) : Bool :=
  60 ≤ l.travel && l.travel ≤ 480 && 100 ≤ l.perInch && l.perInch ≤ 9999 && 10 ≤ l.step && l.step ≤ 100

/-- A geometry that GEOM admits (R1, R3). -/
def geometryOk (g : List Lift) : Bool :=
  1 ≤ g.length && g.length ≤ 4 && g.all Lift.inRange && (g.map Lift.step).sum ≤ 300

/-- Stops within their ranges against a total travel (R2). -/
def Stops.fit (st : Stops) (travel : Nat) : Bool :=
  12 ≤ st.top && st.top ≤ travel && 6 ≤ st.low && st.low + 60 ≤ st.top

/-! ### Changes of carried lifts and pressure (R12) -/

/-- The comparison of a holder with what it was before the event: a change of carried lifts sets CUP, except from absent, and a
change of nominal pressure, or a first one, is reported (R12). -/
def State.shapeChanged (h : HolderId) (old : HolderRec) (s : State) : State :=
  let new := s.holder h
  let t := if old.carried.isSome ∧ new.carried ≠ old.carried then s.raise (.holder h .cup) else s
  if new.nominal ≠ old.nominal ∨ (old.carried.isNone ∧ new.carried.isSome) then t.nominalChanged h else t

/-! ### Stop zones (1.8) -/

/-- AT-TOP entered (R13). -/
def State.enterTop (h : HolderId) (s : State) : State :=
  let t := (s.setHolder h { s.holder h with atTop := true }).raise (.holder h .top)
  let u := if (t.active h).any fun o => o.path == some .make then t.forceEnd .topped h else t
  u.adoptedTrigger .topped h .inlet

/-- AT-LOW entered (R14). -/
def State.enterLow (h : HolderId) (s : State) : State :=
  let t := (s.setHolder h { s.holder h with atLow := true }).raise (.holder h .low)
  let u := if (t.active h).any fun o => o.kind == .draw then t.forceEnd .lowed h else t
  u.adoptedTrigger .lowed h .outlet

/-- The stop states evaluated against the present height: exits before entries (R13, R14). With stops absent both are clear, and
with no height present they stand. -/
def State.evaluateStops (h : HolderId) (s : State) : State :=
  match (s.holderSettings h).stops, (s.holder h).height with
  | none, _ => s.setHolder h { s.holder h with atTop := false, atLow := false }
  | some _, none => s
  | some st, some v =>
    let r := s.holder h
    let t := s.setHolder h { r with atTop := r.atTop && decide (st.top ≤ v), atLow := r.atLow && decide (v ≤ st.low) }
    let u := if st.top ≤ v ∧ r.atTop = false then t.enterTop h else t
    if v ≤ st.low ∧ r.atLow = false then u.enterLow h else u

/-! ### Deltas (1.9) -/

/-- A delta added to the trailing movement, which saturates (R16). -/
def State.addTrailing (h : HolderId) (delta : Int) (s : State) : State :=
  let r := s.holder h
  s.setHolder h { r with trailing := clampInt (-Config.trailingLimit) Config.trailingLimit (r.trailing + delta) }

/-- The holder's active order turned OVERRUN and yielding at this count: the yield is answered at once (R48, R72). -/
def State.answerYield (h : HolderId) (before : Option Order) (s : State) : State :=
  match s.active h with
  | some o => match o.path with
    | some p => if o.yielding ∧ before.any (fun b => b.state == .running) then s.choiceOn p else s
    | none => s
  | none => s

/-- The delta of a valid reading routed to the counting order or to trailing movement; 0 goes nowhere (R15, R46). -/
def State.routeDelta (h : HolderId) (delta : Int) (s : State) : State :=
  if delta = 0 then s
  else if (s.active h).any Order.counting then (s.countDelta h delta).answerYield h (s.active h)
  else s.addTrailing h delta

/-! ### A valid height reading (R7) -/

/-- Steps 1 to 3 of R7 on the record: the loss timer restarts, LOST clears, and height, reading time and volume are taken. -/
def HolderRec.read (r : HolderRec) (g : List Lift) (v : Nat) (now : Option ClockTime) : HolderRec :=
  { r with lossTimer := some Config.lossSeconds, lost := false, height := some v, readingTime := now,
           volume := some (volumeAt g v) }

/-- The delta of a reading; a first reading has none (R7 step 3, R9). -/
def readingDelta (old : HolderRec) (g : List Lift) (v : Nat) : Int :=
  match old.height, old.volume with
  | some _, some p => (volumeAt g v : Int) - (p : Int)
  | _, _ => 0

/-- A valid height reading: loss, height and time, volume and delta, cupping and pressure, stops, in that order (R7), and the
look at a PROVE order when it cleared LOST (R90). -/
def State.takeHeight (h : HolderId) (g : List Lift) (v : Nat) (s : State) : State :=
  let old := s.holder h
  let t := (s.setHolder h (old.read g v s.now)).routeDelta h (readingDelta old g v)
  let u := (t.setHolder h ((t.holder h).shape g old.height.isNone v)).shapeChanged h old
  let w := u.evaluateStops h
  if old.lost then w.provingLook h else w

/-- The loss timer of a holder runs out: LOST, unless it is already (R8). -/
def State.loseHeight (h : HolderId) (s : State) : State :=
  let r := s.holder h
  match r.lossTimer with
  | none => s
  | some _ =>
    if r.lost then s.setHolder h { r with lossTimer := none }
    else ((s.setHolder h { r with lossTimer := none, lost := true }).raise (.holder h .lost)).heightLost h

end Sys2Proof.Machine
end

