-- ==== Sys2Proof/Machine/Supervisor.lean ====
section
/-!
DEFINITION. The yard supervisor (chapter 10): survey end, the clock and its boundaries, the changes of a set clock, the commissioning
store, the cold start and the warm restart; and the end that a group of events shares.
-/
namespace Sys2Proof.Machine

/-! ### Survey end (10.2) -/

/-- The conditions of R170 that a holder can fail. -/
inductive Missing where
  | geometry | height | lost | valves
  deriving DecidableEq, Repr

/-- A valve that has left UNKNOWN (R170): one commanded closed from it counts from the command on, as CLOSING (DEDUCED, log entry 36). -/
def State.valveKnown (s : State) (h : HolderId) (side : Side) : Bool := (s.valve h side).state != .unknown

/-- The conditions of R170 that a holder does not meet now, in the manual's order. -/
def State.missing (s : State) (h : HolderId) : List Missing :=
  (if (s.holderSettings h).geometry.isNone then [.geometry] else []) ++
  (if (s.holder h).height.isNone then [.height] else []) ++
  (if (s.holder h).lost then [.lost] else []) ++
  (if s.valveKnown h .inlet && s.valveKnown h .outlet then [] else [.valves])

/-- Every condition of R170 holds. Every meter has a pulse value at every moment (R115). -/
def State.surveyed (s : State) : Bool :=
  s.now.isSome && !s.inService.isEmpty && s.inService.all fun h => (s.missing h).isEmpty

/-- A change of yard mode, with the YARD MODE flag (R169). -/
def State.enterMode (m : Mode) (s : State) : State := ({ s with yard := { s.yard with mode := m } }).raise (.yard .mode)

/-- The look for survey end (R170). -/
def State.surveyLook (s : State) : State := if s.yard.mode = .survey ∧ s.surveyed then s.enterMode .run else s

/-- Survey end looked for at an event that is not itself one of the path arbiters': the choice on every path is made where the
mode becomes RUN (R170). -/
def State.surveyEnd (s : State) : State :=
  if s.yard.mode = .survey ∧ s.surveyed then (s.enterMode .run).choices else s

/-- The end of an event the path arbiters take and at which survey end is looked for: the look, and then the choice on every path
(R68, R170). -/
def State.settle (s : State) : State := s.surveyLook.choices

/-! ### The clock (10.4, 10.5) -/

/-- The clock at a time of day, its gas-day number as it stands. -/
def State.setTod (tod : Nat) (s : State) : State :=
  match s.now with
  | some c => { s with yard := { s.yard with clock := some { c with tod := tod } } }
  | none => s

/-- The boundaries of a six-minute clock time fired: interval end, hour end, day end, in that order (R121, R172). -/
def State.fireBoundary (tod : Nat) (s : State) : State :=
  let t := (s.setTod tod).intervalEnd
  let u := if tod % Config.hourSeconds = 0 then t.hourEnd else t
  if tod = u.settings.startHour * Config.hourSeconds then u.dayEnd else u

/-- The clock moved on by some seconds, every boundary after the present time and at or before the time reached fired once, in
time order (R172, R174). -/
def State.advance (seconds : Nat) (s : State) : State :=
  match s.now with
  | none => s
  | some c =>
    let first := c.tod / Config.intervalSeconds
    let count := (c.tod + seconds) / Config.intervalSeconds - first
    let t := forEach (List.range count)
      (fun k => State.fireBoundary ((first + 1 + k) * Config.intervalSeconds % Config.daySeconds)) s
    t.setTod ((c.tod + seconds) % Config.daySeconds)

/-- The position of a time of day within its gas day (R174). -/
def position (tod startHour : Nat) : Nat :=
  (tod + Config.daySeconds - startHour * Config.hourSeconds) % Config.daySeconds

/-- The difference in seconds from the present day and position to the requested ones, where the requested day is the same, the
next or the one before; nothing for any other day (R174). -/
def clockDifference (start : Nat) (now req : ClockTime) : Option Int :=
  let ahead : Int := (position req.tod start : Int) - (position now.tod start : Int)
  if req.day = now.day then some ahead
  else if req.day = nextGasDay now.day then some (ahead + Config.daySeconds)
  else if now.day = nextGasDay req.day then some (ahead - Config.daySeconds)
  else none

/-- How R174 classes a change of a set clock. -/
inductive ClockChange where
  | forwardTrim (seconds : Nat)
  | backwardTrim
  | jumpForward (seconds : Nat)
  | jumpBack
  | jumpDay
  | noChange
  deriving DecidableEq, Repr

/-- The class of a change: a trim within 300 s, forward into any day or backward within the gas day; otherwise a jump, to another
gas day or within the same one; or no change (R174). -/
def classifyClock (start : Nat) (now req : ClockTime) : ClockChange :=
  match clockDifference start now req with
  | none => .jumpDay
  | some d =>
    if d = 0 then .noChange
    else if 0 < d ∧ d ≤ Config.trimSeconds then .forwardTrim d.toNat
    else if -Config.trimSeconds ≤ d ∧ d < 0 ∧ req.day = now.day then .backwardTrim
    else if req.day ≠ now.day then .jumpDay
    else if 0 < d then .jumpForward d.toNat
    else .jumpBack

/-- The clock set to a day and time. -/
def State.setClock (c : ClockTime) (s : State) : State := { s with yard := { s.yard with clock := some c } }

/-- The open day closed by a jump to another gas day: the interval in hand credited where anything was gathered, the close with
CLOCK-JUMP at the time before the setting, the requested day opened SHORT, and the clock set (R129, R174). The credit's end time is the
time before the setting too (DEDUCED, log entry 35). -/
def State.jumpToDay (now req : ClockTime) (s : State) : State :=
  let t := if s.accounts.gathered then s.creditAll now (slotAt now.tod s.settings.startHour) else s
  (t.closeDay now true req.day .short).setClock req

/-- A change of a set clock carried out (R174). -/
def State.changeClock (now req : ClockTime) (s : State) : State :=
  match classifyClock s.settings.startHour now req with
  | .forwardTrim n => s.advance n
  | .backwardTrim => s.setClock req
  | .jumpForward n => s.advance n
  | .jumpBack => s.setClock req
  | .jumpDay => s.jumpToDay now req
  | .noChange => s

/-- A change that RUN refuses: a jump (R174). -/
def ClockChange.isJump : ClockChange → Bool
  | .jumpForward _ => true
  | .jumpBack => true
  | .jumpDay => true
  | _ => false

/-- The first setting of the clock: the clock takes the request, and the first gas day opens SHORT (R122, R173). -/
def State.firstClock (req : ClockTime) (s : State) : State :=
  let t := s.setClock req
  { t with accounts := { t.accounts with day := some (DayRec.fresh req.day .short none none false) } }

/-! ### The commissioning store (10.6) -/

/-- A save completes: the store holds the copy taken at the request, whole, and the unsaved mark clears (R177). -/
def State.completeSave (s : State) : State :=
  match s.yard.save with
  | none => s
  | some c => { s with store := some c.copy, yard := { s.yard with save := none, unsaved := false } }

/-! ### The cold start (R178) -/

/-- A cold start from the store as it stands, with the strap as read; a save in progress is lost (R177, R178, R191). -/
def State.coldStart (baudHigh : Bool) (s : State) : State := State.afterColdStart s.store baudHigh s.pending

/-- RESET pulled low: the line, the reply and the save in hand are lost, and nothing is driven (R178, R190, R191). -/
def State.assertReset (s : State) : State :=
  { s with yard := { s.yard with resetHeld := true, save := none },
           line := { s.line with receiver := .idle, gapRunning := false, inHand := none, reply := none } }

/-! ### The warm restart (R179) -/

/-- A path's grant after a warm restart: ADOPTED wherever a holder is granted, and an outgoing order's end due become the path's
outgoing cause (R88). -/
def PathState.restarted (st : PathState) (due : HolderId → Option EndDue) : PathState :=
  match st with
  | .empty => .empty
  | .granted g => .granted ⟨g.holder, .adopted⟩
  | .changeover stage g out cause =>
    .changeover stage (g.map fun g => ⟨g.holder, .adopted⟩) out
      (match due out with | some d => some d | none => cause)

/-- Settings reloaded, orders and finished list emptied, grants ADOPTED: the values each block takes by itself (R20, R37, R63,
R88, R136, R156, R168, R179). -/
def State.reloaded (s : State) : State :=
  { s with
    settings := s.store.getD .factory
    yard := { s.yard with mode := .survey, unsaved := false, lastReset := .warm, busyWindow := true }
    slots := .fill ⟨none, none⟩
    finished := []
    paths := s.paths.map fun r =>
      { r with state := r.state.restarted fun h => (s.active h).bind Order.endDue }
    line := .afterReset }

/-- A district's loading brought within the limits in force, and sent if it changed (R153 step 1, R156). -/
def State.loadingWithin (d : DistrictId) (s : State) : State :=
  let g := (s.districtSettings d).governing
  s.setDistrict d { s.district d with loading := clampTo g.minimum g.maximum (s.district d).loading }

/-- The live part of a holder whose reloaded geometry is absent: cold-start values, but for the temperature and the trailing
movement (R20). -/
def HolderRec.bare (r : HolderRec) : HolderRec :=
  { r with height := none, readingTime := none, lossTimer := none, cupped := [], carried := none, nominal := 0, volume := none,
           atTop := false, atLow := false, lost := false, lastStock := none }

/-- The loss timer started where it was stopped, the geometry is present and the holder is not LOST (R8, R20). -/
def HolderRec.restartLossTimer (r : HolderRec) : HolderRec :=
  if r.lossTimer.isNone ∧ r.lost = false then { r with lossTimer := some Config.lossSeconds } else r

/-- Stops of the settings dropped where they do not fit the geometry (R3 step 1). -/
def HolderSettings.dropUnfit (c : HolderSettings) : HolderSettings :=
  match c.geometry, c.stops with
  | some g, some st => if st.fit (totalTravel g) then c else { c with stops := none }
  | none, _ => { c with stops := none }
  | some _, none => c

/-- A holder at a warm restart, `old` its settings before: recomputed where the geometry changed, its stop states evaluated against the
reloaded stops, then its pressure reported, in the order of R3's steps, and a service change reported (R20). The holders are taken one by
one, each with its reports before the next is recomputed (DESIGN CHOICE, log entry 37). -/
def State.restartHolder (old : HolderTable HolderSettings) (h : HolderId) (s : State) : State :=
  let before := s.holder h
  let s1 := s.setHolderSettings h (s.holderSettings h).dropUnfit
  let c := s1.holderSettings h
  let after := match c.geometry with
    | none => before.bare
    | some g => if c.geometry = (old.get h).geometry then before.restartLossTimer else (before.recompute g).restartLossTimer
  let s2 := s1.setHolder h after
  let s3 := s2.evaluateStops h
  let s4 := if after.nominal ≠ before.nominal then s3.nominalChanged h else s3
  if (old.get h).service = .inService ∧ c.service = .outOfService then s4.serviceOut h else s4

/-- The booster's settings reloaded: a changed head told to the boosted district, and a disable taken (R168). -/
def State.restartBooster (old : BoosterSettings) (s : State) : State :=
  let new := s.settings.booster
  let t := if new.head ≠ old.head then s.noticeTo .headChanged s.booster.boosted else s
  if old.enabled ∧ !new.enabled then t.dropBooster else t

/-- A warm restart, one yard event: each block's own values first, then the reports of one block to another, the opening snapshot,
and last every sticky flag clear but WARM (R179, R192, R123). -/
def State.warmRestart (s : State) : State :=
  let t := s.reloaded
  let t := forEach DistrictId.all (fun d t => (t.loadingWithin d).clampAtOnce d) t
  let t := forEach HolderId.all (State.restartHolder s.settings.holders) t
  let t := t.restartBooster s.settings.booster
  let t := t.openingSnapshot
  { t with flags := { StickyFlags.clear with yard := ⟨false, true, false, false, false⟩ } }

end Sys2Proof.Machine
end

