-- ==== Sys2Proof/Machine/Line.lean ====
section
/-!
DEFINITION. The station line (chapter 11): the receiver and its discards, the answer to an accepted request, and the reply. A request's
own work is an `Answer`, so that a refused one has no state to change.
-/
namespace Sys2Proof.Machine

/-- What the owning block makes of a request: a refusal, with its code, or the request carried out, with whether a value was
clamped, the reply's data and the state after (R184, R185, R186). -/
inductive Answer where
  | refuse (code : OutcomeCode)
  | done (clamped : Bool) (data : List Text) (s : State)

/-- A discard: YARD LINE and the last discard cause (R183). -/
def State.discard (c : Discard) (s : State) : State :=
  ({ s with line := { s.line with lastDiscard := some c } }).raise (.yard .line)

/-- The receiver in a state, with the gap timer running exactly outside IDLE (R183). -/
def State.receive (r : Receiver) (s : State) : State :=
  { s with line := { s.line with receiver := r, gapRunning := decide (r ≠ .idle) } }

/-- A refusal recorded: YARD FAULT and the last refusal (R185). -/
def State.recordRefusal (verb : Text) (code : OutcomeCode) (s : State) : State :=
  ({ s with line := { s.line with lastRefusal := some ⟨verb, code⟩ } }).raise (.yard .fault)

/-- A reply built and begun: the summary is taken now, and the request stays in hand while it is sent (R186, log entry 3). -/
def State.sendReply (verb : Text) (args : List Text) (code : OutcomeCode) (data : List Text) (s : State) : State :=
  let r : Reply := { outcome := code, summary := s.summary, verb := verb, data := data, left := 0 }
  { s with line := { s.line with inHand := some (joinWords (verb :: args)), reply := some { r with left := r.line.length } } }

/-- The part answers BY: in the 0.5 s after a warm restart to every request, and during a save to every one but YARD (R184). -/
def State.busyFor (s : State) (isYard : Bool) : Bool := s.yard.busyWindow || (s.yard.save.isSome && !isYard)

/-- An answer turned into its reply, a refusal recorded and changing nothing else (R185, R186). -/
def State.reply (verb : Text) (args : List Text) (a : Answer) (s : State) : State :=
  match a with
  | .refuse code => (s.recordRefusal verb code).sendReply verb args code []
  | .done clamped data t => t.sendReply verb args (if clamped then .cl else .ok) data

/-- A request line that ends well framed and with good check digits: the receiver returns to IDLE; a reply still being sent makes
it a discard OVERLAP; otherwise it is taken, answered BY in the busy times (R182, R184). While RESET is held low the part takes
no request (R178). -/
def State.takeRequest (verb : Text) (args : List Text) (isYard : Bool) (work : State → Answer) (s : State) : State :=
  if s.yard.resetHeld then s
  else
    let t := s.receive .idle
    if t.line.reply.isSome then t.discard .overlap
    else if t.busyFor isYard then t.sendReply verb args .busy []
    else t.reply verb args (work t)

/-- The work of a field report, a boundary or a timer's expiry; while RESET is held low there is none (R178). -/
def State.event (work : State → State) (s : State) : State := if s.yard.resetHeld then s else work s

/-! ### The receiver (11.2) -/

/-- A printable character: codes 32 to 126 (R181). -/
def printable (c : Byte) : Bool := 32 ≤ c.toNat && c.toNat ≤ 126

/-- Two or more characters, all the same (R182). -/
def stuckText : Text → Bool
  | a :: b :: rest => (b :: rest).all (· == a)
  | _ => false

/-- What the line end makes of a line (R182), an OVERLAP apart. -/
inductive Judgement where
  | discard (c : Discard)
  | accepted (text : Text)
  deriving DecidableEq, Repr

/-- The line in the receiver judged at its CR, a reply still being sent apart (R182 cases 2 to 5). -/
def judge : Receiver → Judgement
  | .text t => if stuckText t then .discard .stuck else .discard .star
  | .digits t ds => if parseHexByte ds = some (checkSum t) then .accepted t else .discard .check
  | .idle => .discard .star
  | .skip => .discard .star

/-- A printable character other than the star (R181). -/
def State.takeCharacter (c : Char) (s : State) : State :=
  match s.line.receiver with
  | .idle => s.receive (.text [c])
  | .text t =>
    if t.length < Config.textLimit then s.receive (.text (t ++ [c]))
    else (s.receive .skip).discard (if (t ++ [c]).all (· == c) then .stuck else .long)
  | .digits t ds => if ds.length < 2 then s.receive (.digits t (ds ++ [c])) else (s.receive .skip).discard .check
  | .skip => s.receive .skip

/-- The star (R181). -/
def State.takeStar (s : State) : State :=
  match s.line.receiver with
  | .idle => s.receive (.digits [] [])
  | .text t => s.receive (.digits t [])
  | .digits _ _ => (s.receive .skip).discard .check
  | .skip => s.receive .skip

/-- A character that is not printable, and neither CR nor LF (R181). -/
def State.takeUnprintable (s : State) : State :=
  match s.line.receiver with
  | .skip => s.receive .skip
  | _ => (s.receive .skip).discard .char

/-- The gap timer runs out (R183). -/
def State.gapExpires (s : State) : State :=
  match s.line.receiver with
  | .idle => s
  | .text _ => (s.receive .idle).discard .gap
  | .digits _ _ => (s.receive .idle).discard .gap
  | .skip => s.receive .idle

/-- The last character of a reply has been sent: the line is free, and a carried-out RESTART's warm restart is taken at this event
(R186, R192). -/
def State.replyEnds (s : State) : State :=
  match s.line.reply with
  | none => s
  | some r =>
    let t := { s with line := { s.line with reply := none, inHand := none } }
    if r.verb = "RESTART".toList ∧ r.outcome = .ok then t.warmRestart else t

end Sys2Proof.Machine
end

