-- ==== Sys2Proof/Machine/HolderFamily.lean ====
section
/-!
DEFINITION. The commands of the holder table: GEOM, STOPS, SERVICE, HOLDER, the height and temperature reports and their timers
(chapter 1).
-/
namespace Sys2Proof.Machine

/-- What a step answers. -/
abbrev Result := Host.Outcome State Fault Refusal

/-! ### GEOM (R3) -/

/-- The lift triples of GEOM: travel, volume per inch and step each (R3). -/
def parseLifts : List Text → Option (List Lift)
  | [] => some []
  | a :: b :: c :: rest => match parseNum a, parseNum b, parseNum c, parseLifts rest with
    | some t, some v, some p, some g => some (⟨t, v, p⟩ :: g)
    | _, _, _, _ => none
  | _ => none

/-- The arguments of GEOM, within every range of R1. -/
def parseGeom (args : List Text) : Option (HolderId × List Lift) :=
  match args with
  | hw :: nw :: rest => match parseHolder hw, parseNum nw, parseLifts rest with
    | some h, some n, some g => if g.length = n ∧ geometryOk g then some (h, g) else none
    | _, _, _ => none
  | _ => none

/-- The holder's active order stands PROVING (R3). -/
def State.provingNow (s : State) (h : HolderId) : Bool := (s.active h).any fun o => o.state == .proving

/-- GEOM is refused RS for the state of the holder (R3). -/
def State.geomBarred (s : State) (h : HolderId) (g : List Lift) : Bool :=
  let c := s.holderSettings h
  s.provingNow h || (c.service == .inService && c.stops.any fun st => !st.fit (totalTravel g))

/-- A new geometry written and its four steps done (R3), with the loss timer of a holder that had none (R8). -/
def State.applyGeometry (h : HolderId) (g : List Lift) (s : State) : State :=
  let c := s.holderSettings h
  let old := s.holder h
  let r := old.recompute g
  let t := s.setHolderSettings h ({ c with geometry := some g }).dropUnfit
  let t := t.setHolder h { r with lossTimer := if c.geometry.isNone then some Config.lossSeconds else r.lossTimer }
  (t.evaluateStops h).shapeChanged h old

/-- A geometry as reply data: the lift count and each lift's triple, or NONE (R3, R19). -/
def geometryItems (g : Option (List Lift)) : List Text :=
  items (fun g => decimal g.length ::
    g.flatMap fun l => [decimal l.travel, decimal l.perInch, decimal l.step]) g

/-- GEOM Hn n t1 v1 p1 … (R3). -/
def geomAnswer (args : List Text) (s : State) : Answer :=
  if s.yard.mode = .run then .refuse .rm
  else match parseGeom args with
    | none => .refuse .ra
    | some (h, g) =>
      if s.geomBarred h g then .refuse .rs
      else .done false (geometryItems (s.holderSettings h).geometry)
        ((s.applyGeometry h g).markUnsaved.openingSnapshot.settle)

def execGeom (args : List Text) (s : State) : Result := .next (s.takeRequest geomVerb args false (geomAnswer args))

/-! ### STOPS (R4) -/

/-- The arguments of STOPS. -/
def parseStops (args : List Text) : Option (HolderId × Stops) :=
  match args with
  | [hw, tw, lw] => match parseHolder hw, parseNum tw, parseNum lw with
    | some h, some t, some l => some (h, ⟨t, l⟩)
    | _, _, _ => none
  | _ => none

/-- Both stops as reply data, or NONE (R4, R19). -/
def stopsItems (st : Option Stops) : List Text := items (fun st => [decimal st.top, decimal st.low]) st

/-- STOPS Hn top low (R4). -/
def stopsAnswer (args : List Text) (s : State) : Answer :=
  if s.yard.mode = .run then .refuse .rm
  else match parseStops args with
    | none => .refuse .ra
    | some (h, st) =>
      let c := s.holderSettings h
      match c.geometry with
      | none => .refuse .rs
      | some g =>
        if st.fit (totalTravel g) then
          .done false (stopsItems c.stops)
            (((s.setHolderSettings h { c with stops := some st }).evaluateStops h).markUnsaved.choices)
        else .refuse .ra

def execStops (args : List Text) (s : State) : Result := .next (s.takeRequest stopsVerb args false (stopsAnswer args))

/-! ### SERVICE (R5) -/

/-- The arguments of SERVICE. -/
def parseServiceArgs (args : List Text) : Option (HolderId × Service) :=
  match args with
  | [hw, w] => match parseHolder hw, parseService w with
    | some h, some v => some (h, v)
    | _, _ => none
  | _ => none

/-- Either order slot of the holder is filled (R5). -/
def State.slotFilled (s : State) (h : HolderId) : Bool := (s.active h).isSome || (s.followOn h).isSome

/-- SERVICE Hn IN|OUT (R5). IN when IN and OUT when OUT change nothing themselves and set no unsaved mark (log entry 18); carried out all
the same, they bring the looks of R123 and R170 that a SERVICE request carried out brings (DEDUCED, log entry 20). -/
def serviceAnswer (args : List Text) (s : State) : Answer :=
  if s.yard.mode = .run then .refuse .rm
  else match parseServiceArgs args with
    | none => .refuse .ra
    | some (h, v) =>
      let c := s.holderSettings h
      let data := [Service.name c.service]
      match v, c.service with
      | .inService, .outOfService =>
        if c.geometry.isNone || c.stops.isNone then .refuse .rs
        else .done false data
          ((s.setHolderSettings h { c with service := .inService }).markUnsaved.openingSnapshot.settle)
      | .outOfService, .inService =>
        if s.slotFilled h then .refuse .rs
        else .done false data
          (((s.setHolderSettings h { c with service := .outOfService }).serviceOut h).markUnsaved.openingSnapshot.settle)
      | .inService, .inService => .done false data s.openingSnapshot.surveyEnd
      | .outOfService, .outOfService => .done false data s.openingSnapshot.surveyEnd

def execService (args : List Text) (s : State) : Result := .next (s.takeRequest serviceVerb args false (serviceAnswer args))

/-! ### HOLDER (R19) -/

/-- The argument of a request whose one argument is a holder. -/
def parseOneHolder (args : List Text) : Option HolderId :=
  match args with
  | [hw] => parseHolder hw
  | _ => none

/-- The cupped marks: C or U, lowest first; NONE with no boundary (R19). -/
def cuppedItems (cupped : List Bool) : List Text :=
  match cupped with
  | [] => [noneItem]
  | bs => bs.map fun b => if b then ['C'] else ['U']

/-- The stop states: TOP, LOW or CLEAR (R19). -/
def stopStateItem (r : HolderRec) : Text :=
  if r.atTop then "TOP".toList else if r.atLow then "LOW".toList else "CLEAR".toList

/-- The last stock and its time, or NONE (R19). -/
def lastStockItems (k : Option LastStock) : List Text := items (fun k => [decimal k.stock, clockItem k.time]) k

/-- The data of a HOLDER read (R19). -/
def State.holderData (s : State) (h : HolderId) : List Text :=
  let c := s.holderSettings h
  let r := s.holder h
  [Service.name c.service] ++ geometryItems c.geometry ++ stopsItems c.stops ++
  [item decimal r.height, clockItem r.readingTime, if r.lost then "LOST".toList else "OK".toList] ++
  cuppedItems r.cupped ++
  [item decimal r.carried, decimal r.nominal, item decimal r.volume, item decimal r.temperature, stopStateItem r,
   item decimal (s.stock h)] ++
  lastStockItems r.lastStock ++ [signed r.trailing]

/-- HOLDER Hn: a stock is computed where one can be had, and written as last stock (R19, R18). -/
def holderAnswer (args : List Text) (s : State) : Answer :=
  match parseOneHolder args with
  | none => .refuse .ra
  | some h => .done false ((s.takeStock h).holderData h) (s.takeStock h)

def execHolder (args : List Text) (s : State) : Result := .next (s.takeRequest holderVerb args false (holderAnswer args))

/-! ### Height reports and the loss timer (R6 to R9) -/

/-- A height report judged against the present geometry (R6). -/
def State.validHeight (s : State) (h : HolderId) (value : Option Int) : Option (List Lift × Nat) :=
  match (s.holderSettings h).geometry with
  | none => none
  | some g => (validReading 0 (totalTravel g + Config.heightOverTravel) value).map fun v => (g, v)

/-- HEIGHT_REPORT: an invalid report is ignored; a valid reading is taken whole, with the opening snapshot, the look for survey
end and the choice on every path at its end (R6, R7, R123, R170, R68). -/
def execHeightReport (h : HolderId) (value : Option Int) (s : State) : Result :=
  .next (s.event fun s => match s.validHeight h value with
    | none => s
    | some (g, v) => (s.takeHeight h g v).openingSnapshot.settle)

/-- LOSS_TIMER_EXPIRY (R8). -/
def execLossTimerExpiry (h : HolderId) (s : State) : Result := .next (s.event fun s => (s.loseHeight h).choices)

/-! ### Holder temperature (R17) -/

/-- HOLDER_TEMPERATURE_REPORT: a value in 0 to 120 °F is held, its age from 0; any other report is ignored (R17, R123). -/
def execHolderTemperatureReport (h : HolderId) (value : Option Int) (s : State) : Result :=
  .next (s.event fun s => match validReading 0 120 value with
    | none => s
    | some v => (s.setHolder h { s.holder h with temperature := some v, temperatureAge := 0 }).openingSnapshot)

/-- HOLDER_TEMPERATURE_STALE: the held temperature becomes absent (R17). -/
def execHolderTemperatureStale (h : HolderId) (s : State) : Result :=
  .next (s.event fun s => s.setHolder h { s.holder h with temperature := none })

end Sys2Proof.Machine
end

