-- ==== Sys2Proof/Machine/ValveFamily.lean ====
section
/-!
DEFINITION. The commands of the valve drives: STROKE, VALVE, VALVE … CLEAR, contact reports and stroke timers (chapter 2).
-/
namespace Sys2Proof.Machine

/-! ### STROKE (R33) -/

/-- The arguments of a request of a holder and a number. -/
def parseHolderNum (args : List Text) : Option (HolderId × Nat) :=
  match args with
  | [hw, nw] => match parseHolder hw, parseNum nw with
    | some h, some n => some (h, n)
    | _, _ => none
  | _ => none

/-- STROKE Hn seconds, clamped to 20 to 300 (R33). -/
def strokeAnswer (args : List Text) (s : State) : Answer :=
  match parseHolderNum args with
  | none => .refuse .ra
  | some (h, n) =>
    let c := s.holderSettings h
    .done (clampTo 20 300 n != n) [decimal c.strokeLimit]
      ((s.setHolderSettings h { c with strokeLimit := clampTo 20 300 n }).markUnsaved)

def execStroke (args : List Text) (s : State) : Result := .next (s.takeRequest strokeVerb args false (strokeAnswer args))

/-! ### VALVE (R35) and VALVE … CLEAR (R34) -/

/-- The arguments of VALVE: a holder and IN or OUT. -/
def parseValve (args : List Text) : Option (HolderId × Side) :=
  match args with
  | [hw, w] => match parseHolder hw, parseSide w with
    | some h, some side => some (h, side)
    | _, _ => none
  | _ => none

/-- The origin of a stroke, or NONE (R35). -/
def ValveState.originItem : ValveState → Text
  | .opening o => Origin.name o
  | .closing o => Origin.name o
  | _ => noneItem

/-- The fault cause, or NONE (R35). -/
def ValveState.causeItem : ValveState → Text
  | .fault c => ValveFault.name c
  | _ => noneItem

/-- The data of a VALVE read (R35). -/
def State.valveData (s : State) (h : HolderId) (side : Side) : List Text :=
  let v := s.valve h side
  [v.state.name, v.state.originItem, contactItem v.openC, contactItem v.shutC, v.drive.name, item decimal v.timer,
   decimal (s.strokeLimit h), v.state.causeItem, clockItem v.lastChange]

/-- VALVE Hn IN|OUT (R35). -/
def valveAnswer (args : List Text) (s : State) : Answer :=
  match parseValve args with
  | none => .refuse .ra
  | some (h, side) => .done false (s.valveData h side) s

def execValve (args : List Text) (s : State) : Result := .next (s.takeRequest valveVerb args false (valveAnswer args))

/-- VALVE Hn IN|OUT CLEAR: a FAULT with the valve recorded shut becomes CLOSED, passing a closed confirmed (R34). -/
def valveClearAnswer (args : List Text) (s : State) : Answer :=
  match parseValve args with
  | none => .refuse .ra
  | some (h, side) =>
    let v := s.valve h side
    match v.cleared s.now with
    | none => .refuse .rs
    | some w => .done false [v.state.name, v.state.causeItem]
        (((s.setValve h side w).closedConfirmed h side).choices)

def execValveClear (args : List Text) (s : State) : Result :=
  .next (s.takeRequest valveVerb (args ++ [clearWord]) false (valveClearAnswer args))

/-! ### Contact reports and stroke timers (R22 to R31) -/

/-- The end of an event of a valve: survey end is looked for where the valve has left UNKNOWN, and the choice is made on every path
(R68, R170). One commanded closed from UNKNOWN has left it at the command, so that the end of its stroke brings no look (DEDUCED, log entry
36). -/
def State.settleValve (before : ValveState) (h : HolderId) (side : Side) (s : State) : State :=
  if before = .unknown ∧ (s.valve h side).state ≠ .unknown then s.settle else s.choices

/-- VALVE_CONTACT_REPORT (R22). -/
def execValveContactReport (h : HolderId) (side : Side) (openC shutC : Contact) (s : State) : Result :=
  .next (s.event fun s =>
    let v := s.valve h side
    (s.takeValve (v.report (s.strokeLimit h) s.now openC shutC) h side).settleValve v.state h side)

/-- STROKE_TIMER_EXPIRY (R28). -/
def execStrokeTimerExpiry (h : HolderId) (side : Side) (s : State) : Result :=
  .next (s.event fun s =>
    let v := s.valve h side
    (s.takeValve (v.expire s.now) h side).settleValve v.state h side)

end Sys2Proof.Machine
end

