-- ==== Sys2Proof/Machine/OrderFamily.lean ====
section
/-!
DEFINITION. The commands of the order slots: LOAD, PROVE, END, DROP, ORDERS, FIN and the proving timer (chapters 3 and 5).
-/
namespace Sys2Proof.Machine

/-! ### LOAD (R40) and PROVE (R42) -/

/-- The kind words of LOAD. -/
def parseKind (w : Text) : Option OrderKind := parseName [.fill, .draw] OrderKind.name w

/-- The kind of order a path takes (R40). -/
def PathId.kind : PathId → OrderKind
  | .make => .fill
  | .dist _ => .draw

/-- A tally argument: 0 for none, else 1,000 to 1,000,000 (R39, R40). -/
def tallyArg (n : Nat) : Option (Option Nat) :=
  if n = 0 then some none else if 1000 ≤ n ∧ n ≤ 1000000 then some (some n) else none

/-- A tag within its range (R39). -/
def tagOk (tag : Nat) : Bool := 1 ≤ tag && tag ≤ 65535

/-- The arguments of LOAD, judged by R40: a holder and the order offered. -/
def parseLoad (args : List Text) : Option (HolderId × Order) :=
  match args with
  | [hw, tw, kw, pw, qw, aw, yw] =>
    match parseHolder hw, parseNum tw, parseKind kw, parsePath pw, parseNum qw, parseAtCount aw, (parseNum yw).bind tallyArg with
    | some h, some tag, some k, some p, some q, some a, some y =>
      if tagOk tag ∧ k = PathId.kind p ∧ 1000 ≤ q ∧ q ≤ 16000000 then some (h, Order.newTransfer tag p q a y) else none
    | _, _, _, _, _, _, _ => none
  | _ => none

/-- The arguments of PROVE, judged by R42. -/
def parseProve (args : List Text) : Option (HolderId × Order) :=
  match args with
  | [hw, tw, lw, mw] =>
    match parseHolder hw, parseNum tw, parseNum lw, parseNum mw with
    | some h, some tag, some tol, some m =>
      if tagOk tag ∧ tol ≤ 100000 ∧ 30 ≤ m ∧ m ≤ 720 then some (h, Order.newProving tag tol m) else none
    | _, _, _, _ => none
  | _ => none

/-- An order is refused RS: the holder OUT, the tag live, or both slots filled (R40, R42). -/
def State.orderBarred (s : State) (h : HolderId) (tag : Nat) : Bool :=
  (s.holderSettings h).service == .outOfService || s.tagLive tag || ((s.active h).isSome && (s.followOn h).isSome)

/-- An admitted order placed in the active slot, READY, or the follow-on slot, PENDING (R41). A PROVE order placed active is looked
at for R90 at once. -/
def State.placeOrder (h : HolderId) (o : Order) (s : State) : State :=
  match s.active h with
  | none => (s.setActive h (some o)).provingLook h
  | some _ => s.setFollowOn h (some { o with state := .pending })

/-- The slot an admitted order takes (R40). -/
def State.slotTaken (s : State) (h : HolderId) : Text :=
  if (s.active h).isNone then "ACTIVE".toList else "FOLLOW-ON".toList

/-- An order offered by LOAD or PROVE (R40, R41, R42); the path arbiters are told (R68). -/
def State.offerOrder (h : HolderId) (o : Order) (s : State) : Answer :=
  if s.orderBarred h o.tag then .refuse .rs
  else .done false [s.slotTaken h] ((s.placeOrder h o).choices)

/-- LOAD Hn tag FILL|DRAW path quantity HAND|STAND tally (R40). -/
def loadAnswer (args : List Text) (s : State) : Answer :=
  match parseLoad args with
  | none => .refuse .ra
  | some (h, o) => s.offerOrder h o

def execLoad (args : List Text) (s : State) : Result := .next (s.takeRequest loadVerb args false (loadAnswer args))

/-- PROVE Hn tag tolerance minutes (R42). -/
def proveAnswer (args : List Text) (s : State) : Answer :=
  match parseProve args with
  | none => .refuse .ra
  | some (h, o) => s.offerOrder h o

def execProve (args : List Text) (s : State) : Result := .next (s.takeRequest proveVerb args false (proveAnswer args))

/-! ### END (R53, R95) and DROP (R54) -/

/-- END is refused RS: an outgoing order with an end due (R53). -/
def Order.endBarred (o : Order) : Bool := o.counting && o.outgoing && o.endDue.isSome

/-- The effect of END by the active order's state (R53). -/
def State.endByRequest (h : HolderId) (o : Order) (s : State) : State :=
  match o.state with
  | .ready => s.endActive .ended h
  | .starting => s.endStarting .ended h
  | .running => s.putEnded h
  | .overrun => s.putEnded h
  | .proving => s.endActive .ended h
  | .pending => s

/-- END Hn (R53). -/
def endAnswer (args : List Text) (s : State) : Answer :=
  match parseOneHolder args with
  | none => .refuse .ra
  | some h => match s.active h with
    | none => .refuse .rs
    | some o =>
      if o.endBarred then .refuse .rs
      else .done false [decimal o.tag, o.state.name] ((s.endByRequest h o).choices)

def execEndOrder (args : List Text) (s : State) : Result := .next (s.takeRequest endVerb args false (endAnswer args))

/-- DROP Hn (R54). -/
def dropAnswer (args : List Text) (s : State) : Answer :=
  match parseOneHolder args with
  | none => .refuse .ra
  | some h => match s.followOn h with
    | none => .refuse .rs
    | some o => .done false [decimal o.tag, o.kind.name] ((s.setFollowOn h none).choices)

def execDrop (args : List Text) (s : State) : Result := .next (s.takeRequest dropVerb args false (dropAnswer args))

/-! ### ORDERS (R61, R98) -/

/-- An end due, or NONE (R61). -/
def endDueItem (d : Option EndDue) : Text := item (fun d => (EndDue.cause d).name) d

/-- A filled slot as ORDERS gives it (R61, R98). A FILL or DRAW leaves out the two PROVE only items, period and start stock, with the
remaining time (DESIGN CHOICE, log entry 6). -/
def Order.data (o : Order) : List Text :=
  match o.body with
  | .transfer t =>
    [decimal o.tag, t.kind.name, o.state.name, PathId.name t.path, decimal t.quantity, t.atCount.name, item decimal t.tallyStep,
     decimal t.moved, decimal t.toGo, decimal t.overrun, decimal t.backflow, decimal t.tallyCount] ++
    dayTimeItems o.start ++ [endDueItem t.endDue, yesNo t.outgoing]
  | .proving p =>
    [decimal o.tag, OrderKind.prove.name, o.state.name, noneItem, decimal p.tolerance, noneItem, noneItem,
     noneItem, noneItem, noneItem, noneItem, noneItem] ++
    dayTimeItems o.start ++
    [noneItem, yesNo false, decimal p.period, item decimal p.startStock, item decimal p.timer]

/-- ORDERS Hn: the active slot, then the follow-on slot (R61). -/
def ordersAnswer (args : List Text) (s : State) : Answer :=
  match parseOneHolder args with
  | none => .refuse .ra
  | some h => .done false (items Order.data (s.active h) ++ items Order.data (s.followOn h)) s

def execOrders (args : List Text) (s : State) : Result := .next (s.takeRequest ordersVerb args false (ordersAnswer args))

/-! ### FIN (R58) -/

/-- A finished record in the order of R56, NONE for each absent field (R58). -/
def Finished.data (f : Finished) : List Text :=
  [decimal f.tag, HolderId.name f.holder, f.kind.name, item PathId.name f.path, decimal f.quantity, f.cause.name,
   decimal f.moved, decimal f.overrun, decimal f.backflow, decimal f.tallyCount] ++
  dayTimeItems f.start ++ dayTimeItems f.ended ++
  [item decimal f.startStock, item decimal f.endStock, item signed f.loss]

/-- FIN: the oldest record leaves the list and is returned, or NONE (R58). -/
def finAnswer (args : List Text) (s : State) : Answer :=
  match args with
  | [] => match s.finished with
    | [] => .done false [noneItem] s
    | f :: rest => .done false f.data { s with finished := rest }
  | _ => .refuse .ra

def execFin (args : List Text) (s : State) : Result := .next (s.takeRequest finVerb args false (finAnswer args))

/-! ### The proving timer (R96) -/

/-- PROVING_TIMER_EXPIRY (R96). -/
def execProvingTimerExpiry (h : HolderId) (s : State) : Result := .next (s.event fun s => (s.provingOutcome h).choices)

end Sys2Proof.Machine
end

