-- ==== Sys2Proof/Machine/PathFamily.lean ====
section
/-!
DEFINITION. The commands of the path arbiters: PRIO and PATH (4.9).
-/
namespace Sys2Proof.Machine

/-- The arguments of PRIO. -/
def parsePrio (args : List Text) : Option (PathId × Priority) :=
  match args with
  | [pw, w] => match parsePath pw, parsePriority w with
    | some p, some m => some (p, m)
    | _, _ => none
  | _ => none

/-- PRIO path FIXED|ROTATE (R85). -/
def prioAnswer (args : List Text) (s : State) : Answer :=
  if s.yard.mode = .run then .refuse .rm
  else match parsePrio args with
    | none => .refuse .ra
    | some (p, m) => .done false [Priority.name (s.settings.priority.get p)]
        (({ s with settings := { s.settings with priority := s.settings.priority.set p m } }).markUnsaved)

def execPrio (args : List Text) (s : State) : Result := .next (s.takeRequest prioVerb args false (prioAnswer args))

/-- The name of a path's state (R86). -/
def PathState.name : PathState → Text
  | .empty => "EMPTY".toList
  | .granted _ => "GRANTED".toList
  | .changeover _ _ _ _ => "CHANGEOVER".toList

/-- The granted order: tag and state of the granted holder's active order, or NONE (R86). -/
def State.grantedOrderItems (s : State) (g : Option Grant) : List Text :=
  items (fun o => [decimal o.tag, o.state.name]) (g.bind fun g => s.active g.holder)

/-- The data of a PATH read (R86). -/
def State.pathData (s : State) (p : PathId) : List Text :=
  let r := s.path p
  [r.state.name, item (fun g => HolderId.name g.holder) r.state.grant, item (fun g => g.kind.name) r.state.grant] ++
  s.grantedOrderItems r.state.grant ++
  [item HolderId.name r.state.outgoing, item Stage.name r.state.stage, endDueItem r.state.cause,
   Priority.name (s.settings.priority.get p), item HolderId.name r.lastServed, setClear r.unserved]

/-- PATH path (R86). -/
def pathAnswer (args : List Text) (s : State) : Answer :=
  match args with
  | [pw] => match parsePath pw with
    | some p => .done false (s.pathData p) s
    | none => .refuse .ra
  | _ => .refuse .ra

def execPath (args : List Text) (s : State) : Result := .next (s.takeRequest pathVerb args false (pathAnswer args))

end Sys2Proof.Machine
end

