-- ==== Sys2Proof/Machine/DistrictFamily.lean ====
section
/-!
DEFINITION. The commands of the district governors: SCHED, FOG, GOVERN, DIST, the far-point gauge reports and the period end
(chapter 8).
-/
namespace Sys2Proof.Machine

/-! ### SCHED (R139) -/

/-- The pairs of SCHED: a time hh:mm and a setpoint each (R139). -/
def parsePoints : List Text → Option (List SchedulePoint)
  | [] => some []
  | tw :: pw :: rest => match parseMinute tw, parseNum pw, parsePoints rest with
    | some m, some p, some ps => some (⟨m, p⟩ :: ps)
    | _, _, _ => none
  | _ => none

/-- No minute stands twice (R138, R139). -/
def minutesDistinct (ps : List SchedulePoint) : Bool := decide (ps.map SchedulePoint.minute).Nodup

/-- The arguments of SCHED (R139). -/
def parseSched (args : List Text) : Option (DistrictId × List SchedulePoint) :=
  match args with
  | dw :: rest => match parseDistrict dw, parsePoints rest with
    | some d, some ps => if 1 ≤ ps.length ∧ ps.length ≤ 8 ∧ minutesDistinct ps then some (d, ps) else none
    | _, _ => none
  | [] => none

/-- A point put in its place in an ascending schedule (R138). -/
def insertPoint (p : SchedulePoint) : List SchedulePoint → List SchedulePoint
  | [] => [p]
  | q :: qs => if p.minute ≤ q.minute then p :: q :: qs else q :: insertPoint p qs

/-- Points in ascending order of minute (R138, R139). -/
def sortPoints : List SchedulePoint → List SchedulePoint
  | [] => []
  | p :: ps => insertPoint p (sortPoints ps)

/-- A point with its setpoint brought within 10 to 150 (R139). -/
def SchedulePoint.within (p : SchedulePoint) : SchedulePoint := { p with setpoint := clampTo 10 Config.setpointLimit p.setpoint }

/-- A schedule as reply data, earliest point first (R139). -/
def scheduleItems (ps : List SchedulePoint) : List Text := ps.flatMap fun p => [minuteText p.minute, decimal p.setpoint]

/-- SCHED Dn hh:mm setpoint … (R139). -/
def schedAnswer (args : List Text) (s : State) : Answer :=
  match parseSched args with
  | none => .refuse .ra
  | some (d, ps) =>
    let c := s.districtSettings d
    let new := ps.map SchedulePoint.within
    .done (new != ps) (scheduleItems c.schedule)
      ((s.setDistrictSettings d { c with schedule := sortPoints new }).markUnsaved)

def execSched (args : List Text) (s : State) : Result := .next (s.takeRequest schedVerb args false (schedAnswer args))

/-! ### FOG (R140) -/

/-- The arguments of FOG. -/
def parseFog (args : List Text) : Option (DistrictId × Nat) :=
  match args with
  | [dw, lw] => match parseDistrict dw, parseNum lw with
    | some d, some n => some (d, n)
    | _, _ => none
  | _ => none

/-- FOG Dn lift (R140). -/
def fogAnswer (args : List Text) (s : State) : Answer :=
  match parseFog args with
  | none => .refuse .ra
  | some (d, n) =>
    .done (clampTo 0 30 n != n) [decimal (s.district d).fogLift]
      (s.setDistrict d { s.district d with fogLift := clampTo 0 30 n })

def execFog (args : List Text) (s : State) : Result := .next (s.takeRequest fogVerb args false (fogAnswer args))

/-! ### GOVERN (R153) -/

/-- The arguments of GOVERN (R153). -/
def parseGovern (args : List Text) : Option (DistrictId × Governing) :=
  match args with
  | [dw, a, b, c, e, f, g, h, i] =>
    match parseDistrict dw, parseNum a, parseNum b, parseNum c, parseNum e, parseNum f, parseNum g, parseNum h, parseNum i with
    | some d, some band, some step, some minimum, some maximum, some drop, some fallback, some period, some tolerance =>
      if minimum ≤ maximum then some (d, ⟨band, step, minimum, maximum, drop, fallback, period, tolerance⟩) else none
    | _, _, _, _, _, _, _, _, _ => none
  | _ => none

/-- The governing numbers brought within their ranges, the fallback within the limits so found (R153). -/
def Governing.within (g : Governing) : Governing :=
  { band := clampTo 1 10 g.band, step := clampTo 1 10 g.step, minimum := clampTo 10 150 g.minimum,
    maximum := clampTo 10 150 g.maximum, drop := clampTo 0 20 g.drop,
    fallback := clampTo (clampTo 10 150 g.minimum) (clampTo 10 150 g.maximum) g.fallback,
    period := clampTo 30 300 g.period, tolerance := clampTo 1 10 g.tolerance }

/-- The eight governing numbers as reply data (R153, R154). -/
def Governing.items (g : Governing) : List Text :=
  [decimal g.band, decimal g.step, decimal g.minimum, decimal g.maximum, decimal g.drop, decimal g.fallback, decimal g.period,
   decimal g.tolerance]

/-- GOVERN Dn band step minimum maximum drop fallback period tolerance (R153). -/
def governAnswer (args : List Text) (s : State) : Answer :=
  if s.yard.mode = .run then .refuse .rm
  else match parseGovern args with
    | none => .refuse .ra
    | some (d, g) =>
      let c := s.districtSettings d
      .done (g.within != g) c.governing.items
        ((((s.setDistrictSettings d { c with governing := g.within }).loadingWithin d).clampAtOnce d).markUnsaved)

def execGovern (args : List Text) (s : State) : Result := .next (s.takeRequest governVerb args false (governAnswer args))

/-! ### DIST (R154) -/

/-- A gauge's last valid reading and its age, or NONE (R154). -/
def gaugeItems (g : Option Gauge) : List Text := items (fun g => [decimal g.value, decimal g.age]) g

/-- The data of a DIST read (R154). -/
def State.distData (s : State) (d : DistrictId) : List Text :=
  let r := s.district d
  let p := s.activePoint d
  [minuteText p.minute, decimal p.setpoint, decimal r.fogLift, decimal (s.setpoint d)] ++
  (s.districtSettings d).governing.items ++
  [decimal r.loading, item HolderId.name r.supplying, item decimal (s.available d), item decimal (s.unboosted d)] ++
  gaugeItems r.duty ++ gaugeItems r.check ++
  [item PairState.name r.pair, item decimal r.reading, item Condition.name r.condition, decimal r.unorderedRun,
   r.request.name, yesNo r.boosted, decimal r.releaseRun, decimal r.periodTimer]

/-- The argument of a request whose one argument is a district. -/
def parseOneDistrict (args : List Text) : Option DistrictId :=
  match args with
  | [dw] => parseDistrict dw
  | _ => none

/-- DIST Dn (R154). -/
def distAnswer (args : List Text) (s : State) : Answer :=
  match parseOneDistrict args with
  | none => .refuse .ra
  | some d => .done false (s.distData d) s

def execDist (args : List Text) (s : State) : Result := .next (s.takeRequest distVerb args false (distAnswer args))

/-! ### Far-point gauges (R141) -/

/-- A valid reading taken by one gauge of a district, its age from 0 (R141). -/
def DistrictRec.takeGauge (r : DistrictRec) (g : GaugeId) (v : Nat) : DistrictRec :=
  match g with
  | .duty => { r with duty := some ⟨v, 0⟩ }
  | .check => { r with check := some ⟨v, 0⟩ }

/-- FAR_POINT_GAUGE_REPORT: a value in 0 to 300 is held, any other report is ignored (R141). -/
def execFarPointGaugeReport (d : DistrictId) (g : GaugeId) (value : Option Int) (s : State) : Result :=
  .next (s.event fun s => match validReading 0 300 value with
    | none => s
    | some v => s.setDistrict d ((s.district d).takeGauge g v))

/-! ### The period end (R143) -/

/-- Steps 1 to 4 of R143 on the record: setpoint, pair, condition and unordered run (R138, R142, R143, R145). -/
def State.observed (s : State) (d : DistrictId) : DistrictRec :=
  let r := s.district d
  let g := (s.districtSettings d).governing
  let o := evaluatePair g.tolerance (validGauge g.period r.duty) (validGauge g.period r.check)
  let c := conditionOf o.2 (s.setpoint d) g.band
  { r with pair := some o.1, reading := o.2, condition := some c,
           unorderedRun := if c = .unordered then countUp r.unorderedRun else 0 }

/-- One gauge of the pair was valid alone (R142). -/
def PairState.single : PairState → Bool
  | .singleDuty => true
  | .singleCheck => true
  | _ => false

/-- Steps 1 to 4 of a period end, with the SINGLE and UNORDERED flags (R142, R143, R145). -/
def State.observe (d : DistrictId) (s : State) : State :=
  let r := s.observed d
  let t := s.setDistrict d r
  let u := if r.pair.any PairState.single then t.raise (.district d .single) else t
  if Config.unorderedRunLimit ≤ r.unorderedRun then u.raise (.district d .unordered) else u

/-- The loading changed by the condition (R144). -/
def steppedBy (c : Option Condition) (step loading : Nat) : Nat :=
  match c with
  | some .low => loading + step
  | some .high => loading - step
  | _ => loading

/-- Step 5: the loading of a supplied district stepped, brought within its limits and limited to the supply limit (R144). -/
def State.stepLoading (d : DistrictId) (s : State) : State :=
  match s.supplyLimit d with
  | none => s
  | some l =>
    let r := s.district d
    let g := (s.districtSettings d).governing
    s.setDistrict d { r with loading := min l (clampTo g.minimum g.maximum (steppedBy r.condition g.step r.loading)) }

/-- The release run after step 6 of a supplied, boosted district (R152). -/
def releaseCount (loading unboosted run : Nat) : Nat := if loading + Config.releaseMargin ≤ unboosted then run + 1 else 0

/-- A release sent: boosted clear, request NONE, run 0, the available pressure without the head, and booster control told (R152). -/
def State.release (d : DistrictId) (s : State) : State := (s.loseBoost d).withdrawBooster d

/-- Step 6: the release run counted, with whether it made a release (R152). -/
def State.releaseStep (d : DistrictId) (s : State) : State × Bool :=
  let r := s.district d
  match r.boosted, s.unboosted d with
  | true, some a =>
    let n := releaseCount r.loading a r.releaseRun
    if Config.releaseRunLimit ≤ n then (s.release d, true)
    else (s.setDistrict d { r with releaseRun := n }, false)
  | _, _ => (s, false)

/-- The conditions of R150 on the state, a release at this period end apart. -/
def State.wantsBooster (s : State) (d : DistrictId) : Bool :=
  let r := s.district d
  match s.available d, s.supplyLimit d with
  | some a, some l =>
    r.condition == some .low && r.loading == l && decide (a < (s.districtSettings d).governing.maximum) &&
    s.settings.booster.enabled && s.yard.mode == .run && r.request == .none
  | _, _ => false

/-- Step 7: the request for the booster (R150, R158). -/
def State.requestStep (d : DistrictId) (released : Bool) (s : State) : State :=
  if !released && s.wantsBooster d then
    (s.setDistrict d { s.district d with request := .queued }).requestBooster d
  else s

/-- Step 8: the period timer restarts at the period in force (R143). -/
def State.restartPeriod (d : DistrictId) (s : State) : State :=
  s.setDistrict d { s.district d with periodTimer := (s.districtSettings d).governing.period }

/-- The eight steps of a period end (R143). -/
def State.periodEnd (d : DistrictId) (s : State) : State :=
  let t := ((s.observe d).stepLoading d).releaseStep d
  (t.1.requestStep d t.2).restartPeriod d

/-- PERIOD_END (R143). -/
def execPeriodEnd (d : DistrictId) (s : State) : Result := .next (s.event (State.periodEnd d))

end Sys2Proof.Machine
end

