-- ==== Sys2Proof/Machine/BoosterFamily.lean ====
section
/-!
DEFINITION. The commands of booster control: BOOST, BOOST CLEAR, BOOSTER, the running contact's reports and the three timers
(chapter 9).
-/
namespace Sys2Proof.Machine

/-! ### BOOST (R165) -/

/-- The word of the enabled setting: ENABLE or DISABLE (R165, R166). -/
def enableItem (b : Bool) : Text := if b then "ENABLE".toList else "DISABLE".toList

/-- The arguments of BOOST, its CLEAR form apart (R165). -/
def parseBoost (args : List Text) : Option BoosterSettings :=
  match args with
  | [ew, hw, rw, aw] => match parseName [true, false] enableItem ew, parseNum hw, parseNum rw, parseNum aw with
    | some e, some h, some r, some a => some ⟨e, h, r, a⟩
    | _, _, _, _ => none
  | _ => none

/-- The booster's numbers brought within their ranges (R165). -/
def BoosterSettings.within (c : BoosterSettings) : BoosterSettings :=
  { c with head := clampTo 20 80 c.head, runUp := clampTo 20 240 c.runUp, alignment := clampTo 10 120 c.alignment }

/-- The four settings as reply data (R165, R166). -/
def BoosterSettings.items (c : BoosterSettings) : List Text :=
  [enableItem c.enabled, decimal c.head, decimal c.runUp, decimal c.alignment]

/-- New booster settings written, with what a changed head and a disable bring (R165, R164). -/
def State.applyBoost (c : BoosterSettings) (s : State) : State :=
  let old := s.settings.booster
  let t := { s with settings := { s.settings with booster := c } }
  let u := if c.head ≠ old.head then t.noticeTo .headChanged t.booster.boosted else t
  if old.enabled && !c.enabled then u.dropBooster else u

/-- BOOST ENABLE|DISABLE head runup alignment (R165). -/
def boostAnswer (args : List Text) (s : State) : Answer :=
  match parseBoost args with
  | none => .refuse .ra
  | some c => .done (c.within != c) s.settings.booster.items ((s.applyBoost c.within).markUnsaved)

def execBoost (args : List Text) (s : State) : Result := .next (s.takeRequest boostVerb args false (boostAnswer args))

/-! ### BOOST CLEAR (R163) -/

/-- The fault cause, or NONE (R166). -/
def BoosterState.causeItem : BoosterState → Text
  | .fault c => BoosterFault.name c
  | _ => noneItem

/-- The booster stands in FAULT (R163). -/
def BoosterState.isFault : BoosterState → Bool
  | .fault _ => true
  | _ => false

/-- BOOST CLEAR: a FAULT with the contact recorded BROKEN becomes OFF, and the head of the queue is granted (R163, R159). -/
def boostClearAnswer (s : State) : Answer :=
  let b := s.booster
  if b.state.isFault ∧ b.contact = some .broken then
    .done false [b.state.name, b.state.causeItem] ((s.setBooster { b with state := .off }).grantHead)
  else .refuse .rs

def execBoostClear (s : State) : Result := .next (s.takeRequest boostVerb [clearWord] false boostClearAnswer)

/-! ### BOOSTER (R166) -/

/-- The start command's word. -/
def startItem (b : Bool) : Text := if b then "START".toList else "STOP".toList

/-- The queued districts oldest first, or NONE (R166). -/
def queueItems (q : List DistrictId) : List Text :=
  match q with
  | [] => [noneItem]
  | ds => ds.map DistrictId.name

/-- The data of a BOOSTER read (R166). -/
def State.boosterData (s : State) : List Text :=
  let b := s.booster
  [b.state.name, item DistrictId.name b.granted, item DistrictId.name b.boosted, yesNo b.withdrawalPending] ++
  queueItems b.queue ++
  [item decimal b.timer, contactItem b.contact, startItem b.start, item DistrictId.name b.selector, b.state.causeItem] ++
  s.settings.booster.items

/-- BOOSTER (R166). -/
def boosterAnswer (args : List Text) (s : State) : Answer :=
  match args with
  | [] => .done false s.boosterData s
  | _ => .refuse .ra

def execBooster (args : List Text) (s : State) : Result := .next (s.takeRequest boosterVerb args false (boosterAnswer args))

/-! ### The running contact (R160, R162, R163) -/

/-- The running contact lost in RUNNING or ALIGNING: FAULT with cause CONTACT, and the notice to the district that held the grant
(R163). -/
def State.contactLost (n : Notice) (s : State) : State := (s.boosterFaulted .contact).noticeTo n s.booster.granted

/-- A running contact report: recorded, and then acted on by the state (R157, R159, R160, R161, R162, R163). -/
def State.runningContact (c : Contact) (s : State) : State :=
  let t := s.setBooster { s.booster with contact := some c }
  match t.booster.state, c with
  | .runUp, .made => t.runUpEnds
  | .running, .broken => t.contactLost .boostLost
  | .aligning, .broken => t.contactLost .grantDropped
  | _, _ => t

/-- BOOSTER_CONTACT_REPORT (R157). -/
def execBoosterContactReport (c : Contact) (s : State) : Result := .next (s.event (State.runningContact c))

/-! ### The timers -/

/-- The run-up timer runs out: FAULT with cause RUN-UP, the grant dropped (R160). -/
def State.runUpTimeout (s : State) : State :=
  match s.booster.state with
  | .runUp => (s.boosterFaulted .runUp).noticeTo .grantDropped s.booster.granted
  | _ => s

/-- RUN_UP_EXPIRY (R160). -/
def execRunUpExpiry (s : State) : Result := .next (s.event State.runUpTimeout)

/-- The alignment timer runs out: the granted district becomes boosted (R162). -/
def State.alignmentTimeout (s : State) : State :=
  match s.booster.state, s.booster.granted with
  | .aligning, some d => s.beginBoost d
  | _, _ => s

/-- ALIGNMENT_EXPIRY (R162). -/
def execAlignmentExpiry (s : State) : Result := .next (s.event State.alignmentTimeout)

/-- The run-down timer runs out: OFF, and the head of the queue granted at the same event (R159). -/
def State.runDownTimeout (s : State) : State :=
  match s.booster.state with
  | .runDown => (s.setBooster { s.booster with state := .off, timer := none }).grantHead
  | _ => s

/-- RUN_DOWN_EXPIRY (R159). -/
def execRunDownExpiry (s : State) : Result := .next (s.event State.runDownTimeout)

end Sys2Proof.Machine
end

