-- ==== Sys2Proof/Machine/AccountFamily.lean ====
section
/-!
DEFINITION. The commands of the meter accounts: METER in its three forms, CV, ACCT, DAY in its two forms, BAL, the pulse, line and
barometer reports, and the three clock boundaries (chapter 7).
-/
namespace Sys2Proof.Machine

/-! ### METER (R130, R131) -/

/-- The argument of a request whose one argument is a meter or account. -/
def parseOneMeter (args : List Text) : Option MeterId :=
  match args with
  | [mw] => parseMeter mw
  | _ => none

/-- The yard barometer value and its source, or NONE (R130). -/
def barometerItems (b : Option (Nat × BarometerSource)) : List Text :=
  items (fun p => [decimal p.1, BarometerSource.name p.2]) b

/-- The last credit, or NONE (R130). -/
def creditItems (c : Option Credit) : List Text :=
  items (fun c => [timeText c.ended.tod, decimal c.pulses, decimal c.pulseValue, decimal c.gauge, decimal c.temperature,
    decimal c.barometer, decimal c.factor, decimal c.credited, yesNo c.estimated, yesNo c.saturated]) c

/-- The data of a METER read (R130). -/
def State.meterData (s : State) (m : MeterId) : List Text :=
  let r := s.meter m
  [decimal (s.settings.pulse.get m), decimal r.pulses, yesNo r.saturated, decimal r.gaugeSum, decimal r.gaugeCount,
   decimal r.tempSum, decimal r.tempCount, item decimal r.lastG, item decimal r.lastT, decimal r.residue] ++
  barometerItems s.accounts.barometer.value ++ creditItems r.lastCredit

/-- METER mx (R130). -/
def meterAnswer (args : List Text) (s : State) : Answer :=
  match parseOneMeter args with
  | none => .refuse .ra
  | some m => .done false (s.meterData m) s

def execMeter (args : List Text) (s : State) : Result := .next (s.takeRequest meterVerb args false (meterAnswer args))

/-- The arguments of a request of a meter or account and a number. -/
def parseMeterNum (args : List Text) : Option (MeterId × Nat) :=
  match args with
  | [mw, nw] => match parseMeter mw, parseNum nw with
    | some m, some n => some (m, n)
    | _, _ => none
  | _ => none

/-- METER mx value (R130). -/
def meterSetAnswer (args : List Text) (s : State) : Answer :=
  if s.yard.mode = .run then .refuse .rm
  else match parseMeterNum args with
    | none => .refuse .ra
    | some (m, n) =>
      .done (clampTo 1 100 n != n) [decimal (s.settings.pulse.get m)]
        (({ s with settings := { s.settings with pulse := s.settings.pulse.set m (clampTo 1 100 n) } }).markUnsaved)

def execMeterSet (args : List Text) (s : State) : Result :=
  .next (s.takeRequest meterVerb args false (meterSetAnswer args))

/-- The two numbers of METER DEFAULT. -/
def parseDefaults (args : List Text) : Option (Nat × Nat) :=
  match args with
  | [gw, tw] => match parseNum gw, parseNum tw with
    | some g, some t => some (g, t)
    | _, _ => none
  | _ => none

/-- METER DEFAULT g t (R131). -/
def meterDefaultAnswer (args : List Text) (s : State) : Answer :=
  if s.yard.mode = .run then .refuse .rm
  else match parseDefaults args with
    | none => .refuse .ra
    | some (g, t) =>
      .done (clampTo 0 300 g != g || clampTo 0 120 t != t) [decimal s.settings.lineGauge, decimal s.settings.lineTemperature]
        (({ s with settings := { s.settings with lineGauge := clampTo 0 300 g, lineTemperature := clampTo 0 120 t } }).markUnsaved)

def execMeterDefault (args : List Text) (s : State) : Result :=
  .next (s.takeRequest meterVerb (defaultWord :: args) false (meterDefaultAnswer args))

/-! ### CV (R124) -/

/-- CV acct value: 300 to 700, not clamped (R124). -/
def cvAnswer (args : List Text) (s : State) : Answer :=
  match parseMeterNum args with
  | none => .refuse .ra
  | some (m, n) =>
    if 300 ≤ n ∧ n ≤ 700 then
      .done false [decimal (s.settings.cv.get m)]
        (({ s with settings := { s.settings with cv := s.settings.cv.set m n } }).markUnsaved)
    else .refuse .ra

def execCv (args : List Text) (s : State) : Result := .next (s.takeRequest cvVerb args false (cvAnswer args))

/-! ### ACCT (R132), DAY (R133) and BAL (R134) -/

/-- A peak so far as slot and figure, or NONE (R132). -/
def peakItems (p : Option Peak) : List Text := items (fun p => [decimal p.slot.val, decimal p.figure]) p

/-- The data of an ACCT read (R132). -/
def State.acctData (s : State) (m : MeterId) : List Text :=
  items (fun d =>
    let a := d.accounts.get m
    [decimal d.day, Opened.name d.opened, item decimal d.openStock, clockItem d.openStockTime, yesNo d.openMark,
     decimal a.total, decimal a.therms, decimal (s.accounts.btu.get m), decimal (s.settings.cv.get m)] ++
    a.slots.toList.map decimal ++ peakItems a.peak ++ [decimal a.estimated, decimal a.saturated]) s.accounts.day

/-- ACCT acct (R132). -/
def acctAnswer (args : List Text) (s : State) : Answer :=
  match parseOneMeter args with
  | none => .refuse .ra
  | some m => .done false (s.acctData m) s

def execAcct (args : List Text) (s : State) : Result := .next (s.takeRequest acctVerb args false (acctAnswer args))

/-- The figures of a closed day that DAY and BAL share: make to balance (R133, R134). -/
def ClosedDay.figures (c : ClosedDay) : List Text :=
  [decimal c.make, decimal c.sendOut, item decimal c.openStock, decimal c.closeStock, item signed c.change,
   item signed c.balance]

/-- The marks INCOMPLETE, SHORT and CLOCK-JUMP (R133, R134). -/
def ClosedDay.marks (c : ClosedDay) : List Text := [yesNo c.incomplete, yesNo c.short, yesNo c.clockJump]

/-- The header of the closed-day record (R133). -/
def ClosedDay.header (c : ClosedDay) : List Text :=
  [decimal c.day, timeText c.closeTime.tod] ++ c.figures ++ c.marks ++ [yesNo c.taken]

/-- The closed-day record taken: its mark set (R133). -/
def State.takeDay (s : State) : State :=
  { s with accounts := { s.accounts with closed := s.accounts.closed.map fun c => { c with taken := true } } }

/-- DAY (R133). -/
def dayAnswer (s : State) : Answer := .done false (items ClosedDay.header s.accounts.closed) s.takeDay

def execDay (s : State) : Result := .next (s.takeRequest dayVerb [] false dayAnswer)

/-- The account part of the closed-day record (R133). -/
def ClosedAccount.data (a : ClosedAccount) : List Text :=
  [decimal a.total, decimal a.therms] ++ a.slots.toList.map decimal ++
  [decimal a.peakHour.val, decimal a.estimated, decimal a.saturated, decimal a.cv]

/-- DAY acct (R133). -/
def dayAcctAnswer (args : List Text) (s : State) : Answer :=
  match parseOneMeter args with
  | none => .refuse .ra
  | some m => .done false (items (fun c => (c.accounts.get m).data) s.accounts.closed) s

def execDayAcct (args : List Text) (s : State) : Result := .next (s.takeRequest dayVerb args false (dayAcctAnswer args))

/-- BAL (R134). -/
def balAnswer (args : List Text) (s : State) : Answer :=
  match args with
  | [] => .done false (items (fun c => decimal c.day :: c.figures ++ c.marks) s.accounts.closed) s
  | _ => .refuse .ra

def execBal (args : List Text) (s : State) : Result := .next (s.takeRequest balVerb args false (balAnswer args))

/-! ### Gathering (7.2 to 7.4) -/

/-- A pulse report taken: the count, and at a report that loses pulses the mark and the SATURATED flag (R116). -/
def State.takePulses (m : MeterId) (n : Nat) (s : State) : State :=
  let r := s.meter m
  let t := (s.setMeter m (r.addPulses n)).markGathered
  if Config.countLimit < r.pulses + n then t.raise (.meter m .saturated) else t

/-- PULSE_REPORT (R116). -/
def execPulseReport (m : MeterId) (pulses : Byte) (s : State) : Result := .next (s.event (State.takePulses m pulses.toNat))

/-- LINE_GAUGE_REPORT: 0 to 300 tenths (R117). -/
def execLineGaugeReport (m : MeterId) (value : Option Int) (s : State) : Result :=
  .next (s.event fun s => match validReading 0 300 value with
    | none => s
    | some v => (s.setMeter m ((s.meter m).addGauge v)).markGathered)

/-- LINE_TEMPERATURE_REPORT: 0 to 120 °F (R117). -/
def execLineTemperatureReport (m : MeterId) (value : Option Int) (s : State) : Result :=
  .next (s.event fun s => match validReading 0 120 value with
    | none => s
    | some v => (s.setMeter m ((s.meter m).addTemperature v)).markGathered)

/-- A valid barometer reading written (R118). -/
def State.takeBarometer (v : Nat) (s : State) : State :=
  ({ s with accounts := { s.accounts with barometer := s.accounts.barometer.add v } }).markGathered

/-- BAROMETER_REPORT: 2,700 to 3,150 (R118). -/
def execBarometerReport (value : Option Int) (s : State) : Result :=
  .next (s.event fun s => match validReading 2700 3150 value with
    | none => s
    | some v => s.takeBarometer v)

/-! ### The boundaries (R119 to R128, R172) -/

/-- INTERVAL_END (R119, R120). -/
def execIntervalEnd (s : State) : Result := .next (s.event State.intervalEnd)

/-- HOUR_END (R121). -/
def execHourEnd (s : State) : Result := .next (s.event State.hourEnd)

/-- DAY_END (R125 to R128, R172). -/
def execDayEnd (s : State) : Result := .next (s.event State.dayEnd)

end Sys2Proof.Machine
end

