-- ==== Sys2Proof/Machine/YardFamily.lean ====
section
/-!
DEFINITION. The commands of the yard supervisor: YARD, MODE, CLOCK, CLOCK START, RESTART, SAVE, the clock's second, the save's
completion, the end of the busy window and the resets (chapter 10).
-/
namespace Sys2Proof.Machine

/-! ### YARD (R180) -/

def Missing.name : Missing → Text
  | .geometry => "GEOM".toList
  | .height => "HEIGHT".toList
  | .lost => "LOST".toList
  | .valves => "VALVES".toList

/-- The conditions of R170 not now met: CLOCK, NOHOLDER, and each IN-service holder's own, joined to its name (R180). -/
def State.missingWords (s : State) : List Text :=
  (if s.now.isNone then ["CLOCK".toList] else []) ++
  (if s.inService.isEmpty then ["NOHOLDER".toList] else []) ++
  s.inService.flatMap fun h => (s.missing h).map fun m => hyphened (HolderId.name h) m.name

/-- A run of words, or NONE where there are none. -/
def orNone (ws : List Text) : List Text := if ws.isEmpty then [noneItem] else ws

/-- The store state: BLANK, SAVED or SAVING (R176, R177). -/
def State.storeWord (s : State) : Text :=
  if s.yard.save.isSome then "SAVING".toList else if s.store.isSome then "SAVED".toList else "BLANK".toList

/-- The unsaved mark: UNSAVED or SAVED-COPY (R180). -/
def unsavedWord (b : Bool) : Text := if b then "UNSAVED".toList else "SAVED-COPY".toList

/-- The clock as a gas day and hh:mm:ss, or UNSET (R173, R180). -/
def clockItems (c : Option ClockTime) : List Text :=
  match c with
  | some c => [decimal c.day, timeText c.tod]
  | none => ["UNSET".toList]

/-- The data of YARD (R180). -/
def State.yardData (s : State) : List Text :=
  [Mode.name s.yard.mode] ++ clockItems s.now ++
  [item (fun d => decimal d.day) s.accounts.day, decimal s.settings.startHour] ++ orNone s.missingWords ++
  [s.storeWord, unsavedWord s.yard.unsaved, ResetKind.name s.yard.lastReset, hexByte s.summary, hexByte s.line.mask]

/-- YARD (R180). -/
def yardAnswer (args : List Text) (s : State) : Answer :=
  match args with
  | [] => .done false s.yardData s
  | _ => .refuse .ra

def execYard (args : List Text) (s : State) : Result := .next (s.takeRequest yardVerb args true (yardAnswer args))

/-! ### MODE (R171) -/

/-- The two words of MODE: true for RUN (R171). -/
def parseMode (args : List Text) : Option Mode :=
  match args with
  | [w] => parseName [.run, .hold] Mode.name w
  | _ => none

/-- MODE RUN|HOLD (R171). -/
def modeAnswer (args : List Text) (s : State) : Answer :=
  match s.yard.mode, parseMode args with
  | .survey, _ => .refuse .rm
  | _, none => .refuse .ra
  | .run, some .hold => .done false [Mode.name .run] s.holdEntry
  | .run, some _ => .done false [Mode.name .run] s
  | .hold, some .run =>
    if s.surveyed then .done false [Mode.name .hold] ((s.enterMode .run).choices) else .refuse .rs
  | .hold, some _ => .done false [Mode.name .hold] s

def execMode (args : List Text) (s : State) : Result := .next (s.takeRequest modeVerb args false (modeAnswer args))

/-! ### CLOCK (R173, R174) -/

/-- The arguments of CLOCK: a day and a time (R173). -/
def parseClock (args : List Text) : Option ClockTime :=
  match args with
  | [dw, tw] => match parseNum dw, parseSeconds tw with
    | some d, some t => if 1 ≤ d ∧ d ≤ Config.lastGasDay then some ⟨d, t⟩ else none
    | _, _ => none
  | _ => none

/-- CLOCK day hh:mm:ss: the first setting (R173), or a change, of which RUN refuses a jump (R174); survey end is looked for at its
end (R170). -/
def clockAnswer (args : List Text) (s : State) : Answer :=
  match parseClock args with
  | none => .refuse .ra
  | some req => match s.now with
    | none => .done false (clockItems none) ((s.firstClock req).openingSnapshot.surveyEnd)
    | some now =>
      if s.yard.mode = .run ∧ (classifyClock s.settings.startHour now req).isJump then .refuse .ra
      else .done false (clockItems (some now)) ((s.changeClock now req).surveyEnd)

def execClock (args : List Text) (s : State) : Result := .next (s.takeRequest clockVerb args false (clockAnswer args))

/-! ### CLOCK START (R175) -/

/-- The hour of CLOCK START (R175). -/
def parseHour (args : List Text) : Option Nat :=
  match args with
  | [hw] => (parseNum hw).bind fun h => if h ≤ 23 then some h else none
  | _ => none

/-- CLOCK START hh (R175). -/
def clockStartAnswer (args : List Text) (s : State) : Answer :=
  if s.yard.mode = .run then .refuse .rm
  else match parseHour args with
    | none => .refuse .ra
    | some h => .done false [decimal s.settings.startHour]
        (({ s with settings := { s.settings with startHour := h } }).markUnsaved)

def execClockStart (args : List Text) (s : State) : Result :=
  .next (s.takeRequest clockVerb (startWord :: args) false (clockStartAnswer args))

/-! ### RESTART (R179) and SAVE (R177) -/

/-- RESTART: answered OK; the warm restart is taken when its reply has been sent (R179, R186). -/
def restartAnswer (args : List Text) (s : State) : Answer :=
  match args with
  | [] => .done false [] s
  | _ => .refuse .ra

def execRestart (args : List Text) (s : State) : Result :=
  .next (s.takeRequest restartVerb args false (restartAnswer args))

/-- The save begun, with the working copy as it stands (R177). -/
def State.beginSave (s : State) : State := { s with yard := { s.yard with save := some ⟨s.settings, Config.saveSeconds⟩ } }

/-- SAVE (R177). -/
def saveAnswer (args : List Text) (s : State) : Answer :=
  if s.yard.mode = .run then .refuse .rm
  else match args with
    | [] => .done false [] s.beginSave
    | _ => .refuse .ra

def execSave (args : List Text) (s : State) : Result := .next (s.takeRequest saveVerb args false (saveAnswer args))

/-! ### The supervisor's own events -/

/-- CLOCK_SECOND: the clock moves on one second, with the boundaries that fall on it; unset, it does not run (R172). -/
def execClockSecond (s : State) : Result := .next (s.event (State.advance 1))

/-- SAVE_COMPLETE (R177). -/
def execSaveComplete (s : State) : Result := .next (s.event State.completeSave)

/-- The 0.5 s after a warm restart end (R179, R184). -/
def State.endBusyWindow (s : State) : State := { s with yard := { s.yard with busyWindow := false } }

/-- BUSY_WINDOW_END (R179, R184). -/
def execBusyWindowEnd (s : State) : Result := .next (s.event State.endBusyWindow)

/-- COLD_START: power-on, or the release of RESET (R178). -/
def execColdStart (baudHigh : Bool) (s : State) : Result := .next (s.coldStart baudHigh)

/-- WARM_RESTART: the yard event that a carried-out RESTART brings (R179, R192). -/
def execWarmRestart (s : State) : Result := .next (s.event State.warmRestart)

/-- RESET_ASSERTED: RESET held low (R178, R191). -/
def execResetAsserted (s : State) : Result := .next s.assertReset

end Sys2Proof.Machine
end

