-- ==== Sys2Proof/Machine/LineFamily.lean ====
section
/-!
DEFINITION. The commands of the station line: GRP, CLR, ATTN, the busy and unknown-verb answers, a character received, the gap timer
and the end of a reply (chapter 11).
-/
namespace Sys2Proof.Machine

/-! ### GRP (R188) and CLR (R189) -/

/-- The group of GRP and CLR: 0 to 7 (R188). -/
def parseGroup (args : List Text) : Option (Fin 8) :=
  match args with
  | [w] => (parseNum w).bind fun n => if h : n < 8 then some ⟨n, h⟩ else none
  | _ => none

/-- The last refusal as verb and outcome, or NONE (R188). -/
def refusalItems (r : Option LastRefusal) : List Text := items (fun r => [r.verb, r.outcome.name]) r

/-- The flags of a group that stand set, or NONE; for group 7 the last discard cause and the last refusal besides (R188). -/
def State.groupData (s : State) (n : Fin 8) : List Text :=
  orNone (((groupFlags n).filter s.shows).map GroupFlag.name) ++
  (if n = 7 then item Discard.name s.line.lastDiscard :: refusalItems s.line.lastRefusal else [])

/-- GRP n (R188). -/
def grpAnswer (args : List Text) (s : State) : Answer :=
  match parseGroup args with
  | none => .refuse .ra
  | some n => .done false (s.groupData n) s

def execGrp (args : List Text) (s : State) : Result := .next (s.takeRequest grpVerb args false (grpAnswer args))

/-- CLR n (R189). -/
def clrAnswer (args : List Text) (s : State) : Answer :=
  match parseGroup args with
  | none => .refuse .ra
  | some n => .done false (s.groupData n) { s with flags := s.flags.clearGroup n }

def execClr (args : List Text) (s : State) : Result := .next (s.takeRequest clrVerb args false (clrAnswer args))

/-! ### ATTN (R190) -/

/-- The mask of ATTN: two uppercase hexadecimal digits (R190). -/
def parseMask (args : List Text) : Option (BitVec 8) :=
  match args with
  | [w] => parseHexByte w
  | _ => none

/-- ATTN hh (R190). -/
def attnAnswer (args : List Text) (s : State) : Answer :=
  match parseMask args with
  | none => .refuse .ra
  | some m => .done false [hexByte s.line.mask] { s with line := { s.line with mask := m } }

def execAttn (args : List Text) (s : State) : Result := .next (s.takeRequest attnVerb args false (attnAnswer args))

/-! ### Busy and unknown verbs (R184) -/

/-- REQUEST_BUSY: a request accepted in the busy times is answered BY and passed to no block; outside them the row does not arise and
nothing happens (R184). -/
def execRequestBusy (verb : Text) (args : List Text) (s : State) : Result :=
  .next (if s.busyFor (verb == yardVerb) then s.takeRequest verb args (verb == yardVerb) (fun _ => .refuse .ru) else s)

/-- The answer to a verb that is not in the catalogue (R184). -/
def unknownAnswer (_ : State) : Answer := .refuse .ru

/-- UNKNOWN_VERB: a request whose verb is not in the catalogue is refused RU; of a catalogue verb the row does not arise and nothing
happens (R184). -/
def execUnknownVerb (verb : Text) (args : List Text) (s : State) : Result :=
  .next (if knownVerb verb then s else s.takeRequest verb args false unknownAnswer)

/-! ### A character received (R181, R182, R184) -/

/-- The answer of the block that owns a request, for the command its words make; no other command comes of an accepted line. -/
def requestAnswer : Instr → State → Answer
  | .yard args => yardAnswer args
  | .grp args => grpAnswer args
  | .clr args => clrAnswer args
  | .attn args => attnAnswer args
  | .mode args => modeAnswer args
  | .clock args => clockAnswer args
  | .clockStart args => clockStartAnswer args
  | .restart args => restartAnswer args
  | .save args => saveAnswer args
  | .geom args => geomAnswer args
  | .stops args => stopsAnswer args
  | .service args => serviceAnswer args
  | .holder args => holderAnswer args
  | .stroke args => strokeAnswer args
  | .valve args => valveAnswer args
  | .valveClear args => valveClearAnswer args
  | .load args => loadAnswer args
  | .prove args => proveAnswer args
  | .endOrder args => endAnswer args
  | .drop args => dropAnswer args
  | .orders args => ordersAnswer args
  | .fin args => finAnswer args
  | .prio args => prioAnswer args
  | .path args => pathAnswer args
  | .sched args => schedAnswer args
  | .fog args => fogAnswer args
  | .govern args => governAnswer args
  | .dist args => distAnswer args
  | .boost args => boostAnswer args
  | .boostClear => boostClearAnswer
  | .booster args => boosterAnswer args
  | .meter args => meterAnswer args
  | .meterSet args => meterSetAnswer args
  | .meterDefault args => meterDefaultAnswer args
  | .cv args => cvAnswer args
  | .acct args => acctAnswer args
  | .day => dayAnswer
  | .dayAcct args => dayAcctAnswer args
  | .bal args => balAnswer args
  | .unknownVerb _ _ => unknownAnswer
  | .coldStart _ => unknownAnswer
  | .characterReceived _ => unknownAnswer
  | .gapTimerExpiry => unknownAnswer
  | .replySent => unknownAnswer
  | .warmRestart => unknownAnswer
  | .busyWindowEnd => unknownAnswer
  | .saveComplete => unknownAnswer
  | .requestBusy _ _ => unknownAnswer
  | .clockSecond => unknownAnswer
  | .intervalEnd => unknownAnswer
  | .hourEnd => unknownAnswer
  | .dayEnd => unknownAnswer
  | .heightReport _ _ => unknownAnswer
  | .lossTimerExpiry _ => unknownAnswer
  | .holderTemperatureReport _ _ => unknownAnswer
  | .holderTemperatureStale _ => unknownAnswer
  | .valveContactReport _ _ _ _ => unknownAnswer
  | .strokeTimerExpiry _ _ => unknownAnswer
  | .provingTimerExpiry _ => unknownAnswer
  | .pulseReport _ _ => unknownAnswer
  | .lineGaugeReport _ _ => unknownAnswer
  | .lineTemperatureReport _ _ => unknownAnswer
  | .barometerReport _ => unknownAnswer
  | .farPointGaugeReport _ _ _ => unknownAnswer
  | .periodEnd _ => unknownAnswer
  | .boosterContactReport _ => unknownAnswer
  | .runUpExpiry => unknownAnswer
  | .alignmentExpiry => unknownAnswer
  | .runDownExpiry => unknownAnswer
  | .resetAsserted => unknownAnswer

/-- An accepted text taken as the request in hand, passed to the block its verb names (R184). -/
def State.takeWords (verb : Text) (args : List Text) (s : State) : State :=
  s.takeRequest verb args (verb == yardVerb) (requestAnswer (requestOfWords verb args))

/-- An accepted text taken (R184). -/
def State.takeText (text : Text) (s : State) : State :=
  match splitWords text with
  | verb :: args => s.takeWords verb args
  | [] => s.takeWords [] []

/-- A CR (R181, R182): nothing in IDLE, the end of a passed-over line in SKIP, and the end of a line in TEXT and DIGITS, judged
OVERLAP first. -/
def State.takeEnd (s : State) : State :=
  match s.line.receiver with
  | .idle => s
  | .skip => s.receive .idle
  | r =>
    if s.line.reply.isSome then (s.receive .idle).discard .overlap
    else match judge r with
      | .discard c => (s.receive .idle).discard c
      | .accepted text => s.takeText text

/-- A character on RXD (R181, R183). -/
def State.character (c : Byte) (s : State) : State :=
  if c = 10#8 then s
  else if c = 13#8 then s.takeEnd
  else if c = 42#8 then s.takeStar
  else if printable c then s.takeCharacter (Char.ofNat c.toNat)
  else s.takeUnprintable

/-- CHARACTER_RECEIVED (R181). -/
def execCharacterReceived (c : Byte) (s : State) : Result := .next (s.event (State.character c))

/-- GAP_TIMER_EXPIRY (R183). -/
def execGapTimerExpiry (s : State) : Result := .next (s.event State.gapExpires)

/-- REPLY_SENT (R186). -/
def execReplySent (s : State) : Result := .next (s.event State.replyEnds)

end Sys2Proof.Machine
end

