-- ==== Sys2Proof/Machine/Dispatch.lean ====
section
/-!
DEFINITION. One arm per command: each calls the meaning of its row.
-/
namespace Sys2Proof.Machine

/-- A command's effect on everything but the queue. -/
def exec (i : Instr) (s : State) : Host.Outcome State Fault Refusal :=
  match i with
  | .coldStart baudHigh => Sys2Proof.Machine.execColdStart baudHigh s
  | .characterReceived c => Sys2Proof.Machine.execCharacterReceived c s
  | .gapTimerExpiry => Sys2Proof.Machine.execGapTimerExpiry s
  | .replySent => Sys2Proof.Machine.execReplySent s
  | .warmRestart => Sys2Proof.Machine.execWarmRestart s
  | .busyWindowEnd => Sys2Proof.Machine.execBusyWindowEnd s
  | .saveComplete => Sys2Proof.Machine.execSaveComplete s
  | .requestBusy verb args => Sys2Proof.Machine.execRequestBusy verb args s
  | .unknownVerb verb args => Sys2Proof.Machine.execUnknownVerb verb args s
  | .yard args => Sys2Proof.Machine.execYard args s
  | .grp args => Sys2Proof.Machine.execGrp args s
  | .clr args => Sys2Proof.Machine.execClr args s
  | .attn args => Sys2Proof.Machine.execAttn args s
  | .mode args => Sys2Proof.Machine.execMode args s
  | .clock args => Sys2Proof.Machine.execClock args s
  | .clockStart args => Sys2Proof.Machine.execClockStart args s
  | .restart args => Sys2Proof.Machine.execRestart args s
  | .save args => Sys2Proof.Machine.execSave args s
  | .geom args => Sys2Proof.Machine.execGeom args s
  | .stops args => Sys2Proof.Machine.execStops args s
  | .service args => Sys2Proof.Machine.execService args s
  | .holder args => Sys2Proof.Machine.execHolder args s
  | .stroke args => Sys2Proof.Machine.execStroke args s
  | .valve args => Sys2Proof.Machine.execValve args s
  | .valveClear args => Sys2Proof.Machine.execValveClear args s
  | .load args => Sys2Proof.Machine.execLoad args s
  | .prove args => Sys2Proof.Machine.execProve args s
  | .endOrder args => Sys2Proof.Machine.execEndOrder args s
  | .drop args => Sys2Proof.Machine.execDrop args s
  | .orders args => Sys2Proof.Machine.execOrders args s
  | .fin args => Sys2Proof.Machine.execFin args s
  | .prio args => Sys2Proof.Machine.execPrio args s
  | .path args => Sys2Proof.Machine.execPath args s
  | .sched args => Sys2Proof.Machine.execSched args s
  | .fog args => Sys2Proof.Machine.execFog args s
  | .govern args => Sys2Proof.Machine.execGovern args s
  | .dist args => Sys2Proof.Machine.execDist args s
  | .boost args => Sys2Proof.Machine.execBoost args s
  | .boostClear => Sys2Proof.Machine.execBoostClear s
  | .booster args => Sys2Proof.Machine.execBooster args s
  | .meter args => Sys2Proof.Machine.execMeter args s
  | .meterSet args => Sys2Proof.Machine.execMeterSet args s
  | .meterDefault args => Sys2Proof.Machine.execMeterDefault args s
  | .cv args => Sys2Proof.Machine.execCv args s
  | .acct args => Sys2Proof.Machine.execAcct args s
  | .day => Sys2Proof.Machine.execDay s
  | .dayAcct args => Sys2Proof.Machine.execDayAcct args s
  | .bal args => Sys2Proof.Machine.execBal args s
  | .clockSecond => Sys2Proof.Machine.execClockSecond s
  | .intervalEnd => Sys2Proof.Machine.execIntervalEnd s
  | .hourEnd => Sys2Proof.Machine.execHourEnd s
  | .dayEnd => Sys2Proof.Machine.execDayEnd s
  | .heightReport h value => Sys2Proof.Machine.execHeightReport h value s
  | .lossTimerExpiry h => Sys2Proof.Machine.execLossTimerExpiry h s
  | .holderTemperatureReport h value => Sys2Proof.Machine.execHolderTemperatureReport h value s
  | .holderTemperatureStale h => Sys2Proof.Machine.execHolderTemperatureStale h s
  | .valveContactReport h side openC shutC => Sys2Proof.Machine.execValveContactReport h side openC shutC s
  | .strokeTimerExpiry h side => Sys2Proof.Machine.execStrokeTimerExpiry h side s
  | .provingTimerExpiry h => Sys2Proof.Machine.execProvingTimerExpiry h s
  | .pulseReport m pulses => Sys2Proof.Machine.execPulseReport m pulses s
  | .lineGaugeReport m value => Sys2Proof.Machine.execLineGaugeReport m value s
  | .lineTemperatureReport m value => Sys2Proof.Machine.execLineTemperatureReport m value s
  | .barometerReport value => Sys2Proof.Machine.execBarometerReport value s
  | .farPointGaugeReport d g value => Sys2Proof.Machine.execFarPointGaugeReport d g value s
  | .periodEnd d => Sys2Proof.Machine.execPeriodEnd d s
  | .boosterContactReport c => Sys2Proof.Machine.execBoosterContactReport c s
  | .runUpExpiry => Sys2Proof.Machine.execRunUpExpiry s
  | .alignmentExpiry => Sys2Proof.Machine.execAlignmentExpiry s
  | .runDownExpiry => Sys2Proof.Machine.execRunDownExpiry s
  | .resetAsserted => Sys2Proof.Machine.execResetAsserted s

end Sys2Proof.Machine
end

