-- ==== Sys2Proof/Machine/Tick.lean ====
section
/-!
DEFINITION. Time (DESIGN CHOICE, log entry 5): what one elapsed second does on an empty queue, and the expiry commands that time brings.
The table has no row for a tick, so that a tick is what a step does when no command waits.
-/
namespace Sys2Proof.Machine

/-- A running timer counts down one second. -/
def countDown (timer : Option Nat) : Option Nat := timer.map fun n => n - 1

/-- A timer that has run out. -/
def ranOut (timer : Option Nat) : Bool := timer == some 0

/-! ### The expiries that are due -/

/-- A proving timer, by the active order of a holder (R96). -/
def State.provingTimer (s : State) (h : HolderId) : Option Nat :=
  match s.active h with
  | some o => match o.state, o.body with
    | .proving, .proving p => p.timer
    | _, _ => none
  | none => none

/-- The expiries of one holder that are due: loss, temperature, strokes and proving (R8, R17, R28, R96). -/
def State.holderDue (s : State) (h : HolderId) : List Instr :=
  let r := s.holder h
  (if ranOut r.lossTimer then [.lossTimerExpiry h] else []) ++
  (if r.temperature.isSome && decide (Config.temperatureSeconds < r.temperatureAge) then [.holderTemperatureStale h] else []) ++
  (if ranOut (s.valve h .inlet).timer then [.strokeTimerExpiry h .inlet] else []) ++
  (if ranOut (s.valve h .outlet).timer then [.strokeTimerExpiry h .outlet] else []) ++
  (if ranOut (s.provingTimer h) then [.provingTimerExpiry h] else [])

/-- The period ends that are due (R143). -/
def State.periodDue (s : State) (d : DistrictId) : List Instr :=
  if (s.district d).periodTimer = 0 then [.periodEnd d] else []

/-- The booster's expiry that is due (R159, R160, R162). -/
def State.boosterDue (s : State) : List Instr :=
  if ranOut s.booster.timer then
    match s.booster.state with
    | .runUp => [.runUpExpiry]
    | .aligning => [.alignmentExpiry]
    | .runDown => [.runDownExpiry]
    | .off => []
    | .running => []
    | .fault _ => []
  else []

/-- The line's and the supervisor's own: the end of a reply and of a save (R177, R186). -/
def State.yardDue (s : State) : List Instr :=
  (if s.line.reply.any fun r => r.left == 0 then [.replySent] else []) ++
  (if s.yard.save.any fun c => c.left == 0 then [.saveComplete] else [])

/-- Every expiry that is due, in the order in which the part takes those of one second (DESIGN CHOICE, log entry 5). -/
def State.due (s : State) : List Instr :=
  s.yardDue ++ HolderId.all.flatMap s.holderDue ++ DistrictId.all.flatMap s.periodDue ++ s.boosterDue

/-! ### One second -/

/-- A holder's second: its loss timer counts down and its held temperature ages (R8, R17). The age of an absent temperature stands at its
last value (DESIGN CHOICE, log entry 7). -/
def HolderRec.second (r : HolderRec) : HolderRec :=
  { r with lossTimer := countDown r.lossTimer,
           temperatureAge := if r.temperature.isSome then r.temperatureAge + 1 else r.temperatureAge }

/-- A valve's second (R28). -/
def ValveRec.second (v : ValveRec) : ValveRec := { v with timer := countDown v.timer }

/-- An order's second: a proving timer counts down (R96). -/
def Order.second (o : Order) : Order :=
  match o.body with
  | .proving p => { o with body := .proving { p with timer := countDown p.timer } }
  | .transfer _ => o

/-- A gauge's second: its reading ages (R141). -/
def Gauge.second (g : Gauge) : Gauge := { g with age := g.age + 1 }

/-- A district's second: its gauges age and its period timer counts down (R141, R143). -/
def DistrictRec.second (r : DistrictRec) : DistrictRec :=
  { r with periodTimer := r.periodTimer - 1, duty := r.duty.map Gauge.second, check := r.check.map Gauge.second }

/-- A reply's second: as many characters sent as the strapped rate carries (R186). -/
def Reply.second (baudHigh : Bool) (r : Reply) : Reply := { r with left := r.left - Config.charsPerSecond baudHigh }

/-- The commands that a second brings by itself: the timers shorter than a second, and the clock's second (R172, R179, R183). -/
def State.secondEvents (s : State) : List Instr :=
  (if s.line.gapRunning then [.gapTimerExpiry] else []) ++
  (if s.yard.busyWindow then [.busyWindowEnd] else []) ++
  (if s.now.isSome then [.clockSecond] else [])

/-- One elapsed second. -/
def State.second (s : State) : State :=
  { s with
    yard := { s.yard with save := s.yard.save.map fun c => { c with left := c.left - 1 } }
    holders := s.holders.map HolderRec.second
    valves := s.valves.map fun v => ⟨v.inlet.second, v.outlet.second⟩
    slots := s.slots.map fun r => { r with active := r.active.map Order.second }
    districts := s.districts.map DistrictRec.second
    booster := { s.booster with timer := countDown s.booster.timer }
    line := { s.line with reply := s.line.reply.map (Reply.second s.yard.baudHigh) }
    pending := s.pending ++ s.secondEvents }

/-- A step on an empty queue: the first expiry that is due waits next; where none is, a second passes. While RESET is held low nothing
happens (R178). -/
def State.tick (s : State) : State :=
  if s.yard.resetHeld then s
  else match s.due with
    | i :: _ => { s with pending := s.pending ++ [i] }
    | [] => s.second

end Sys2Proof.Machine
end

