-- ==== Sys2Proof/WellFormed.lean ====
section
/-!
DEFINITION. Well-formed commands: a request row whose words could stand on an accepted line, in the form of its row (11.1, 11.6).
Every other row is well formed as it stands: its types hold what the scan bus or a timer can deliver.
-/
namespace Sys2Proof.Machine

/-- A character that can stand in a word of a text: printable, neither the space nor the star (R181, R184). -/
def wordChar (c : Char) : Bool := 33 ≤ c.toNat && c.toNat ≤ 126 && c != '*'

/-- Words that can stand on a line: of word characters, 72 characters in all with the spaces (11.1). -/
def wordsFit (ws : List Text) : Bool := ws.all (fun w => w.all wordChar) && (joinWords ws).length ≤ Config.textLimit

end Sys2Proof.Machine

namespace Sys2Proof

open Machine

/-- The arguments belong to the row's own form and not to another form of the verb (11.6). -/
def Instr.formFits : Instr → Bool
  | .unknownVerb verb _ => !knownVerb verb
  | .requestBusy verb _ => verb.all wordChar
  | .clock args => args.head? != some startWord
  | .valve args => !(args.length == 3 && args.getLast? == some clearWord)
  | .valveClear args => args.length == 2
  | .meter args => args.length != 2 && args.head? != some defaultWord
  | .meterSet args => args.length == 2 && args.head? != some defaultWord
  | .dayAcct args => !args.isEmpty
  | .boost args => args != [clearWord]
  | _ => true

/-- A command is well formed: its form, and the words of its line if it is one. -/
def Instr.wf (i : Instr) : Bool := i.formFits && wordsFit (i.lineWords.getD [])

end Sys2Proof
end

