-- ==== Sys2Proof/Safety.lean ====
section
/-!
DEFINITION. What a sound state is, in the terms the claims use: for each kind of record the relations the manual says hold at every
moment, and the state in which a request line is taken.
-/
namespace Sys2Proof.Machine

/-- The line can take a request and no busy time runs: RESET is not held, no reply is being sent, no save is in progress, and the
0.5 s after a warm restart is over (R178, R182, R184). -/
structure State.Listening (s : State) : Prop where
  resetHigh : s.yard.resetHeld = false
  noReply : s.line.reply = none
  noWindow : s.yard.busyWindow = false
  noSave : s.yard.save = none

/-- A request turned down with a code: the receiver IDLE, the refusal recorded, and the reply without data begun (R182, R185,
R186). -/
def State.refusedWith (verb : Text) (args : List Text) (code : OutcomeCode) (s : State) : State :=
  ((s.receive .idle).recordRefusal verb code).sendReply verb args code []

/-- The part after the characters of a line, taken one after another (R181). -/
def execLine : Text → State → Result
  | [], s => .next s
  | c :: cs, s => match execCharacterReceived (BitVec.ofNat 8 c.toNat) s with
    | .next t => execLine cs t
    | .fault r => .fault r
    | .refused r => .refused r

/-- The parts of the state that belong to the station side and the accounts: all but the field side's records and the flags. -/
def State.outer (s : State) : Settings × Option Settings × Yard × Accounts × Line × List Instr :=
  (s.settings, s.store, s.yard, s.accounts, s.line, s.pending)

/-- The parts of the state that belong to the holders, their valves, their orders and the paths (chapters 1 to 5). -/
def State.works (s : State) :
    HolderTable HolderRec × HolderTable (Sides ValveRec) × HolderTable Slots × List Finished × PathTable PathRec :=
  (s.holders, s.valves, s.slots, s.finished, s.paths)

/-- A holder's record but for the two fields that the start of an order and the computation of a stock write (R16, R18). -/
def HolderRec.observed (r : HolderRec) : HolderRec := { r with trailing := 0, lastStock := none }

/-- A loading brought down to a district's supply limit where it stands above it, and as it is with no supply (R148). -/
def State.limited (s : State) (d : DistrictId) (loading : Nat) : Nat :=
  match s.supplyLimit d with
  | none => loading
  | some l => min l loading

/-- What a disable or HOLD entry leaves of the booster record: running down from RUN-UP, RUNNING and ALIGNING, as it stands but for its
queue elsewhere (R164). -/
def BoosterRec.dropped (b : BoosterRec) : BoosterRec :=
  match b.state with
  | .off => { b with queue := [] }
  | .runDown => { b with queue := [] }
  | .fault _ => { b with queue := [] }
  | _ => { b with state := .runDown, granted := none, boosted := none, withdrawalPending := false, queue := [], timer := some 60,
                  start := false, selector := none }

/-- A warm restart would disturb nothing of a holder: the store's settings are those in force, with stops that fit, and the stop states are
those of the present height (R20). -/
def State.reloadsAsItStands (s : State) (h : HolderId) : Bool :=
  let c := (s.store.getD .factory).holders.get h
  let r := s.holder h
  c == s.holderSettings h &&
  (match c.geometry, c.stops with
   | some g, some st => st.fit (totalTravel g)
   | none, some _ => false
   | _, none => true) &&
  (match c.stops, r.height with
   | none, _ => !r.atTop && !r.atLow
   | some st, some v => r.atTop == decide (st.top ≤ v) && r.atLow == decide (v ≤ st.low)
   | some _, none => true)

/-- The group of a sticky flag (11.5). -/
def Flag.group : Flag → Fin 8
  | .holder _ _ => 0
  | .valve _ _ _ => 1
  | .overflow => 2
  | .order _ _ => 2
  | .path _ _ => 3
  | .district _ _ => 4
  | .boosterFault => 5
  | .boosterGrant => 5
  | .overwritten => 6
  | .meter _ _ => 6
  | .yard _ => 7

/-! ### Settings (1.1, 2.1, 7.1, 8.1, 9.1, 10.6) -/

/-- A holder's settings within the record table: a geometry that GEOM admits, stops that fit it, and both of an IN-service holder
(R1, R2, R5, R33). -/
def HolderSettings.ok (c : HolderSettings) : Bool :=
  (match c.geometry with
   | some g => geometryOk g && c.stops.all fun st => st.fit (totalTravel g)
   | none => c.stops.isNone) &&
  (c.service == .outOfService || c.stops.isSome) && decide (20 ≤ c.strokeLimit) && decide (c.strokeLimit ≤ 300)

/-- Points in ascending order of minute, none twice (R138). -/
def ascending : List SchedulePoint → Bool
  | [] => true
  | [_] => true
  | p :: q :: ps => decide (p.minute < q.minute) && ascending (q :: ps)

/-- A schedule of 1 to 8 points within their ranges, in ascending order of minute (R138). -/
def scheduleOk (ps : List SchedulePoint) : Bool :=
  decide (1 ≤ ps.length) && decide (ps.length ≤ 8) && ascending ps &&
  ps.all fun p => decide (p.minute < 1440) && decide (10 ≤ p.setpoint) && decide (p.setpoint ≤ 150)

/-- Governing numbers within their ranges (8.1). -/
def Governing.ok (g : Governing) : Bool :=
  g.within == g && decide (g.minimum ≤ g.maximum)

/-- The settings of one copy all within their ranges (10.6). -/
structure Settings.Ok (c : Settings) : Prop where
  holders : ∀ h, (c.holders.get h).ok = true
  pulse : ∀ m, 1 ≤ c.pulse.get m ∧ c.pulse.get m ≤ 100
  cv : ∀ m, 300 ≤ c.cv.get m ∧ c.cv.get m ≤ 700
  lineGauge : c.lineGauge ≤ 300
  lineTemperature : c.lineTemperature ≤ 120
  schedule : ∀ d, scheduleOk (c.districts.get d).schedule = true
  governing : ∀ d, ((c.districts.get d).governing).ok = true
  booster : c.booster.within = c.booster
  startHour : c.startHour ≤ 23

/-- Every copy of the settings in the part: the working copy, the store's, and the one a save holds (R176, R177). -/
structure State.SettingsOk (s : State) : Prop where
  working : s.settings.Ok
  store : ∀ c, s.store = some c → c.Ok
  save : ∀ c, s.yard.save = some c → c.copy.Ok

/-! ### Valves (2.1) -/

/-- A valve's drive and stroke timer agree with its state (2.1, R26). -/
def ValveRec.ok (v : ValveRec) : Bool :=
  match v.state with
  | .unknown => v.drive == .rest
  | .closed => v.drive == .rest && v.timer.isNone
  | .opening .commanded => v.drive == .driveOpen && v.timer.isSome
  | .opening .moved => v.drive == .rest && v.timer.isSome
  | .opened => v.drive == .rest && v.timer.isNone
  | .closing .commanded => v.drive == .driveClose && v.timer.isSome
  | .closing .moved => v.drive == .rest && v.timer.isSome
  | .fault _ => v.drive == .rest && v.timer.isNone

/-- Every valve's drive and timer agree with its state. -/
def State.ValvesOk (s : State) : Prop := ∀ h side, (s.valve h side).ok = true

/-! ### Orders (3.1, 3.4) -/

/-- The counting relations of R46 and R47. -/
def Transfer.ok (t : Transfer) : Bool :=
  t.moved + t.toGo == t.quantity + t.overrun && decide (t.toGo ≤ t.quantity) && (t.overrun == 0 || t.toGo == 0) &&
  t.tallyCount == tallyOf t.tallyStep t.moved

/-- An order's fields agree with its state: counting fields at their load values before it runs, to-go 0 exactly in OVERRUN among the
counting states, and a start stock and timer exactly while PROVING (R38, R39, R46, R48, R89). -/
def Order.ok (o : Order) : Bool :=
  match o.body with
  | .transfer t =>
    t.ok && decide (1 ≤ t.quantity) &&
    (match o.state with
     | .pending => t.moved == 0 && !t.outgoing && t.endDue.isNone
     | .ready => t.moved == 0 && !t.outgoing && t.endDue.isNone
     | .starting => t.moved == 0 && !t.outgoing && t.endDue.isNone
     | .running => decide (0 < t.toGo)
     | .overrun => t.toGo == 0
     | .proving => false)
  | .proving p =>
    match o.state with
    | .pending => p.startStock.isNone && p.timer.isNone
    | .ready => p.startStock.isNone && p.timer.isNone
    | .proving => p.startStock.isSome && p.timer.isSome
    | .starting => false
    | .running => false
    | .overrun => false

/-- A holder's two slots: PENDING in the follow-on alone, and a follow-on only behind an active order (R38). -/
def Slots.ok (r : Slots) : Bool :=
  (r.active.all fun o => o.ok && o.state != .pending) && (r.followOn.all fun o => o.ok && o.state == .pending) &&
  (r.active.isSome || r.followOn.isNone)

/-- The tags of a holder's live orders. -/
def Slots.tags (r : Slots) : List Nat := (r.active.toList ++ r.followOn.toList).map Order.tag

/-- The tags of every live order (R38). -/
def State.liveTags (s : State) : List Nat := HolderId.all.flatMap fun h => (s.slots.get h).tags

/-- The order slots and the finished list (R38, R46, R57). -/
structure State.OrdersOk (s : State) : Prop where
  slots : ∀ h, (s.slots.get h).ok = true
  tags : s.liveTags.Nodup
  finished : s.finished.length ≤ Config.finishedCapacity

/-- Outside RUN no order stands STARTING, RUNNING or OVERRUN (3.10). -/
def State.QuietOutsideRun (s : State) : Prop :=
  s.yard.mode ≠ .run → ∀ h o, s.active h = some o → o.state = .ready ∨ o.state = .proving

/-! ### Paths (R65) -/

/-- The holders on a path: granted and outgoing. -/
def PathState.holders : PathState → List HolderId
  | .empty => []
  | .granted g => [g.holder]
  | .changeover _ g out _ => out :: (g.map Grant.holder).toList

/-- The holders on all paths. -/
def State.holdersOnPaths (s : State) : List HolderId := PathId.all.flatMap fun p => (s.path p).state.holders

/-- The laws of R65 on the path records: no holder granted or outgoing twice, a successor in stage FIRST, and no path held in
HOLD. -/
structure State.PathsOk (s : State) : Prop where
  once : s.holdersOnPaths.Nodup
  successor : ∀ p out cause, (s.path p).state ≠ .changeover .first none out cause
  hold : s.yard.mode = .hold → ∀ p, (s.path p).state = .empty

/-- A valve that stands OPENING or OPEN, or has left OPEN by a movement that nothing has yet confirmed or reversed (R30). -/
def ValveState.passing : ValveState → Bool
  | .opening _ => true
  | .opened => true
  | .closing .moved => true
  | _ => false

/-- The law of R65 on the valves, with the moved strokes that can return to OPEN (R30): one that can pass gas has its holder granted
or outgoing on the path it serves. -/
def State.OpenValvesOk (s : State) : Prop :=
  ∀ h side, (s.valve h side).state.passing = true → (s.servedBy h side).isSome = true

/-! ### Holders (1.1) -/

/-- A holder's live values agree with its geometry: none without one; with one, volume and carried lifts exactly with a height, the
pressure of the carried lifts, one cupped flag for each boundary, the loss timer running exactly while not LOST, and a stop state only
with stops (R1, R2, R8, R10, R12). -/
def HolderRec.ok (r : HolderRec) (c : HolderSettings) : Bool :=
  (match c.geometry with
   | none => r.height.isNone && r.nominal == 0 && r.cupped.isEmpty && r.lossTimer.isNone && !r.lost
   | some g => r.cupped.length + 1 == g.length && (r.lossTimer.isNone == r.lost) &&
       r.nominal == (match r.carried with | some n => nominalOf g n | none => 0) &&
       r.volume == r.height.map (volumeAt g)) &&
  r.carried.isSome == r.height.isSome && r.volume.isSome == r.height.isSome &&
  (c.stops.isSome || (!r.atTop && !r.atLow)) &&
  decide (-Config.trailingLimit ≤ r.trailing) && decide (r.trailing ≤ Config.trailingLimit)

/-- Every holder's live values agree with its settings. -/
def State.HoldersOk (s : State) : Prop := ∀ h, (s.holder h).ok (s.holderSettings h) = true

/-! ### Street pressure and the booster (8.5, 9.1, 9.2) -/

/-- The start command, selector, timer, grant and boost that each state has (9.1), and a queue that names no district twice and never
the granted one, empty in OFF (R158, R159). -/
def BoosterRec.ok (b : BoosterRec) : Bool :=
  (match b.state with
   | .off => b.granted.isNone && b.boosted.isNone && !b.withdrawalPending && b.timer.isNone && !b.start && b.selector.isNone &&
       b.queue.isEmpty
   | .runUp => b.granted.isSome && b.boosted.isNone && b.timer.isSome && b.start && b.selector == b.granted
   | .running => b.granted.isSome && b.boosted == b.granted && !b.withdrawalPending && b.timer.isNone && b.start &&
       b.selector == b.granted
   | .aligning => b.granted.isSome && b.boosted.isNone && !b.withdrawalPending && b.timer.isSome && b.start &&
       b.selector == b.granted
   | .runDown => b.granted.isNone && b.boosted.isNone && !b.withdrawalPending && b.timer.isSome && !b.start && b.selector.isNone
   | .fault _ => b.granted.isNone && b.boosted.isNone && !b.withdrawalPending && b.timer.isNone && !b.start &&
       b.selector.isNone) &&
  decide b.queue.Nodup && b.queue.all fun d => b.granted != some d

/-- A district's request state and boosted mark agree with the booster record (R156, R158, R168). -/
def BoosterRec.agrees (b : BoosterRec) (d : DistrictId) (r : DistrictRec) : Bool :=
  (match r.request with
   | .none => !b.queue.contains d && (b.granted != some d || b.withdrawalPending)
   | .queued => b.queue.contains d
   | .granted => b.granted == some d && !b.withdrawalPending) &&
  (r.boosted == (b.boosted == some d)) && (r.boosted || r.releaseRun == 0) && (r.supplying.isSome || r.request == .none)

/-- The booster record and the districts' standing with it. -/
structure State.BoosterOk (s : State) : Prop where
  record : s.booster.ok = true
  standing : ∀ d, s.booster.agrees d (s.district d) = true

/-- The loading law of 8.5: within the limits, and, while supplied, not above the supply limit. -/
structure State.LoadingOk (s : State) : Prop where
  limits : ∀ d, (s.districtSettings d).governing.minimum ≤ (s.district d).loading ∧
    (s.district d).loading ≤ (s.districtSettings d).governing.maximum
  supply : ∀ d l, s.supplyLimit d = some l → (s.district d).loading ≤ l

/-! ### Accounts and clock (6, 7, 10.4) -/

/-- The residues below their divisors and the counts within their limits (R108, R110, R116, R117, R118). -/
structure State.AccountsOk (s : State) : Prop where
  residue : ∀ m, (s.meter m).residue ≤ 9999
  btu : ∀ m, s.accounts.btu.get m ≤ 99999
  pulses : ∀ m, (s.meter m).pulses ≤ Config.countLimit
  gauges : ∀ m, (s.meter m).gaugeCount ≤ Config.countLimit ∧ (s.meter m).gaugeSum ≤ 300 * (s.meter m).gaugeCount
  temperatures : ∀ m, (s.meter m).tempCount ≤ Config.countLimit ∧ (s.meter m).tempSum ≤ 120 * (s.meter m).tempCount
  barometer : s.accounts.barometer.count ≤ Config.countLimit

/-- A clock time within its ranges (10.4). -/
def ClockTime.ok (c : ClockTime) : Bool := decide (1 ≤ c.day) && decide (c.day ≤ Config.lastGasDay) && decide (c.tod < Config.daySeconds)

/-- The clock within its ranges, and a gas day open exactly while it is set, under the clock's own number (R122, R128, R172). -/
structure State.ClockOk (s : State) : Prop where
  range : ∀ c, s.yard.clock = some c → c.ok = true
  day : s.accounts.day.map DayRec.day = s.yard.clock.map ClockTime.day

/-! ### The line (chapter 11) -/

/-- What the receiver holds within its lengths (R181). -/
def Receiver.ok : Receiver → Bool
  | .idle => true
  | .text t => !t.isEmpty && decide (t.length ≤ Config.textLimit)
  | .digits t ds => decide (t.length ≤ Config.textLimit) && decide (ds.length ≤ 2)
  | .skip => true

/-- The receiver within its lengths, the gap timer running exactly outside IDLE, and a request in hand exactly while its reply is sent
(R181, R183, R184, R186). -/
structure State.LineOk (s : State) : Prop where
  receiver : s.line.receiver.ok = true
  gap : s.line.gapRunning = decide (s.line.receiver ≠ .idle)
  inHand : s.line.inHand.isSome = s.line.reply.isSome

end Sys2Proof.Machine
end

