-- ==== Sys2Proof/Certificates/Slice0/Obligations.lean ====
section
/-!
DEFINITION. The statements for the provers. Most of a request's statements are one equation: the state after, with the reply begun, is
the state before with the named updates and no other, so that the equation is the frame as well. A statement that speaks of words
takes every spelling that reads as the value (leading zeros among them). The clauses over `outer`, `works` and `observed` are the frames
of the other statements.
-/
open Sys2Proof Sys2Proof.Machine

/-! ### The step and the queue -/

/-- A step takes the command at the front with the queue's rest. On an empty queue, the model's choice (log entry 5), the first due expiry is
queued, and where none is due one second passes: the loss, stroke, proving, period and booster timers count down, the temperature and the
gauges age, the save in hand and the reply come on, and the commands that a second brings are queued (R8, R17, R28, R96, R141, R143, R157,
R172, R177, R179, R183, R186). Due are the reply sent, the save at its end, each timer at 0, and a temperature held for more than 600 s.
While RESET is held low time does nothing (log entry 10). That the age of an absent temperature stands is log entry 7, the characters of a
second log entry 4. -/
def Obligations.StepTakesTheFrontCommand : Prop :=
  ∀ (s : State) (c : Instr) (rest : List Instr),
    step { s with pending := c :: rest } = exec c { s with pending := rest } ∧
    step { s with pending := [] } = .next ({ s with pending := [] } : State).tick ∧
    (s.yard.resetHeld = true → s.tick = s) ∧
    (∀ i rest, s.yard.resetHeld = false → s.due = i :: rest → s.tick = { s with pending := s.pending ++ [i] }) ∧
    (s.yard.resetHeld = false → s.due = [] →
      let t := s.tick
      let down (timer : Option Nat) : Option Nat := timer.map fun n => n - 1
      let older (g : Option Gauge) : Option Gauge := g.map fun r => { r with age := r.age + 1 }
      (∀ h, t.holder h = { s.holder h with
        lossTimer := down (s.holder h).lossTimer,
        temperatureAge := (s.holder h).temperatureAge + if (s.holder h).temperature = none then 0 else 1 }) ∧
      (∀ h side, t.valve h side = { s.valve h side with timer := down (s.valve h side).timer }) ∧
      (∀ h, t.followOn h = s.followOn h ∧ (s.active h = none → t.active h = none) ∧
        (∀ o u, s.active h = some o → o.body = .transfer u → t.active h = some o) ∧
        (∀ o p, s.active h = some o → o.body = .proving p →
          t.active h = some { o with body := .proving { p with timer := down p.timer } })) ∧
      (∀ d, t.district d = { s.district d with
        periodTimer := (s.district d).periodTimer - 1, duty := older (s.district d).duty, check := older (s.district d).check }) ∧
      t.booster = { s.booster with timer := down s.booster.timer } ∧
      t.yard = { s.yard with save := s.yard.save.map fun v => { v with left := v.left - 1 } } ∧
      t.line = { s.line with
        reply := s.line.reply.map fun r => { r with left := r.left - if s.yard.baudHigh then 960 else 240 } } ∧
      t.settings = s.settings ∧ t.store = s.store ∧ t.finished = s.finished ∧ t.paths = s.paths ∧ t.accounts = s.accounts ∧
      t.flags = s.flags ∧
      t.pending = s.pending ++ ((if s.line.gapRunning then [.gapTimerExpiry] else []) ++
        (if s.yard.busyWindow then [.busyWindowEnd] else []) ++ (if s.yard.clock = none then [] else [.clockSecond]))) ∧
    (∀ i, i ∈ s.due ↔
      (i = .replySent ∧ ∃ r, s.line.reply = some r ∧ r.left = 0) ∨ (i = .saveComplete ∧ ∃ v, s.yard.save = some v ∧ v.left = 0) ∨
      (∃ h, i = .lossTimerExpiry h ∧ (s.holder h).lossTimer = some 0) ∨
      (∃ h, i = .holderTemperatureStale h ∧ (s.holder h).temperature ≠ none ∧ 600 < (s.holder h).temperatureAge) ∨
      (∃ h side, i = .strokeTimerExpiry h side ∧ (s.valve h side).timer = some 0) ∨
      (∃ h o p, i = .provingTimerExpiry h ∧ s.active h = some o ∧ o.state = .proving ∧ o.body = .proving p ∧ p.timer = some 0) ∨
      (∃ d, i = .periodEnd d ∧ (s.district d).periodTimer = 0) ∨
      (s.booster.timer = some 0 ∧ ((i = .runUpExpiry ∧ s.booster.state = .runUp) ∨
        (i = .alignmentExpiry ∧ s.booster.state = .aligning) ∨ (i = .runDownExpiry ∧ s.booster.state = .runDown))))

/-- No command faults, is refused by the model, or touches the commands that wait (the model's choice, log entry 27). -/
def Obligations.EveryCommandAnswersAndKeepsTheQueue : Prop :=
  ∀ (c : Instr) (s : State), ∃ t : State, exec c s = .next t ∧ t.pending = s.pending

/-! ### Lines and their words (chapter 11) -/

/-- The text of a well-formed command's line, split at its spaces and looked up in the catalogue, is the command again (R184, 11.6). -/
def Obligations.LineTextMakesItsCommand : Prop :=
  ∀ (i : Instr) (text : Text), i.wf = true → i.text = some text → requestOf text = i

/-- The whole line of a well-formed command (text, star, check digits and CR), received character by character from IDLE, does what the
command's own row does (R181, R182, R184); that a command's row stands for its whole line is the model's choice (log entry 2). -/
def Obligations.LineReceivedDoesTheCommand : Prop :=
  ∀ (i : Instr) (text : Text) (s : State), i.wf = true → i.text = some text → s.line.receiver = .idle →
    execLine (lineOf text) s = exec i s

/-- The receiver's table (R181): LF, CR, printable characters, the star and the others, in each of the four states. The end of a line
is the one its line-end rule takes (R182). -/
def Obligations.ReceiverTakesCharacters : Prop :=
  ∀ (s : State) (c : Byte), s.yard.resetHeld = false →
    (c = 13#8 → exec (.characterReceived c) s = .next (match s.line.receiver with
      | .idle => s
      | .text _ => s.takeEnd
      | .digits _ _ => s.takeEnd
      | .skip => s.receive .idle)) ∧
    (c = 10#8 → exec (.characterReceived c) s = .next s) ∧
    (c = 42#8 → exec (.characterReceived c) s = .next (match s.line.receiver with
      | .idle => s.receive (.digits [] [])
      | .text t => s.receive (.digits t [])
      | .digits _ _ => (s.receive .skip).discard .check
      | .skip => s.receive .skip)) ∧
    (32 ≤ c.toNat → c.toNat ≤ 126 → c ≠ 42#8 → exec (.characterReceived c) s = .next (match s.line.receiver with
      | .idle => s.receive (.text [Char.ofNat c.toNat])
      | .text t =>
        if t.length < 72 then s.receive (.text (t ++ [Char.ofNat c.toNat]))
        else if t.all (· == Char.ofNat c.toNat) then (s.receive .skip).discard .stuck
        else (s.receive .skip).discard .long
      | .digits t ds =>
        if ds.length < 2 then s.receive (.digits t (ds ++ [Char.ofNat c.toNat])) else (s.receive .skip).discard .check
      | .skip => s.receive .skip)) ∧
    (c ≠ 10#8 → c ≠ 13#8 → (c.toNat < 32 ∨ 126 < c.toNat) → exec (.characterReceived c) s = .next (match s.line.receiver with
      | .skip => s.receive .skip
      | _ => (s.receive .skip).discard .char))

/-- The five cases of a line end, in their order, and a CR outside a line (R182, R181). An accepted text is taken as the request in
hand, the receiver back in IDLE (R184). -/
def Obligations.LineEndIsJudged : Prop :=
  ∀ (s : State) (t ds : Text), s.yard.resetHeld = false →
    (s.line.receiver = .idle → exec (.characterReceived 13#8) s = .next s) ∧
    (s.line.receiver = .skip → exec (.characterReceived 13#8) s = .next (s.receive .idle)) ∧
    ((s.line.receiver = .text t ∨ s.line.receiver = .digits t ds) → s.line.reply.isSome = true →
      exec (.characterReceived 13#8) s = .next ((s.receive .idle).discard .overlap)) ∧
    (s.line.receiver = .text t → s.line.reply = none → 2 ≤ t.length → (∀ c ∈ t, some c = t.head?) →
      exec (.characterReceived 13#8) s = .next ((s.receive .idle).discard .stuck)) ∧
    (s.line.receiver = .text t → s.line.reply = none → (t.length < 2 ∨ ∃ c ∈ t, some c ≠ t.head?) →
      exec (.characterReceived 13#8) s = .next ((s.receive .idle).discard .star)) ∧
    (s.line.receiver = .digits t ds → s.line.reply = none → ds ≠ hexByte (checkSum t) →
      exec (.characterReceived 13#8) s = .next ((s.receive .idle).discard .check)) ∧
    (s.line.receiver = .digits t ds → s.line.reply = none → ds = hexByte (checkSum t) →
      exec (.characterReceived 13#8) s = .next ((s.receive .idle).takeText t))

/-- In the busy times every request but a YARD during a save is answered BY and passed to no block, and the row of the busy answer says
the same (what that row stands for is the model's choice, log entry 2); outside them a verb that is not in the catalogue is refused RU
(R184). -/
def Obligations.BusyAndUnknownVerbs : Prop :=
  ∀ (i : Instr) (verb : Text) (args : List Text) (s : State), s.yard.resetHeld = false → s.line.reply = none →
    (s.yard.busyWindow = true ∨ (s.yard.save.isSome = true ∧ verb ≠ yardVerb) →
      exec (.requestBusy verb args) s = .next ((s.receive .idle).sendReply verb args .busy []) ∧
      (i.wf = true → i.lineWords = some (verb :: args) → exec i s = .next ((s.receive .idle).sendReply verb args .busy []))) ∧
    (s.yard.busyWindow = false → s.yard.save = none → knownVerb verb = false →
      exec (.unknownVerb verb args) s = .next (s.refusedWith verb args .ru))

/-- A request refused RM, RS, RA or RU changes nothing beyond the record of its refusal, and a BY answer not even that (R185). -/
def Obligations.RefusedRequestChangesNothing : Prop :=
  ∀ (i : Instr) (verb : Text) (args : List Text) (s t : State) (r : Reply), s.yard.resetHeld = false → s.line.reply = none →
    i.wf = true → i.lineWords = some (verb :: args) → exec i s = .next t → t.line.reply = some r →
    (r.outcome = .rm ∨ r.outcome = .rs ∨ r.outcome = .ra ∨ r.outcome = .ru → t = s.refusedWith verb args r.outcome) ∧
    (r.outcome = .busy → t = (s.receive .idle).sendReply verb args .busy [])

/-- The nine requests that RUN refuses RM, whatever their words (R169). -/
def Obligations.RunRefusesSettings : Prop :=
  ∀ (s : State) (args : List Text), s.Listening → s.yard.mode = .run →
    exec (.geom args) s = .next (s.refusedWith geomVerb args .rm) ∧
    exec (.stops args) s = .next (s.refusedWith stopsVerb args .rm) ∧
    exec (.service args) s = .next (s.refusedWith serviceVerb args .rm) ∧
    exec (.prio args) s = .next (s.refusedWith prioVerb args .rm) ∧
    exec (.govern args) s = .next (s.refusedWith governVerb args .rm) ∧
    exec (.meterSet args) s = .next (s.refusedWith meterVerb args .rm) ∧
    exec (.meterDefault args) s = .next (s.refusedWith meterVerb (defaultWord :: args) .rm) ∧
    exec (.clockStart args) s = .next (s.refusedWith clockVerb (startWord :: args) .rm) ∧
    exec (.save args) s = .next (s.refusedWith saveVerb args .rm)

/-- The line's and the supervisor's own events: the gap timer drops a partial line with cause GAP, or ends SKIP without a discard; the
end of a reply frees the line, and the reply to a RESTART carried out brings the warm restart at that event; RESTART itself restarts
nothing yet; the busy window and a save end (R177, R179, R183, R186, R192). That a request stays in hand until its reply is sent, and that a gap with the
receiver IDLE changes nothing, are the model's (log entries 3 and 9). -/
def Obligations.LineAndSupervisorEvents : Prop :=
  ∀ (s : State) (r : Reply) (c : SaveInHand), s.yard.resetHeld = false →
    exec .gapTimerExpiry s = .next (match s.line.receiver with
      | .idle => s
      | .skip => { s with line := { s.line with receiver := .idle, gapRunning := false } }
      | _ => { s with line := { s.line with receiver := .idle, gapRunning := false, lastDiscard := some .gap },
                      flags := { s.flags with yard := { s.flags.yard with line := true } } }) ∧
    (s.line.reply = some r → r.verb ≠ restartVerb ∨ r.outcome ≠ .ok →
      exec .replySent s = .next { s with line := { s.line with reply := none, inHand := none } }) ∧
    (s.line.reply = some r → r.verb = restartVerb → r.outcome = .ok →
      exec .replySent s = exec .warmRestart { s with line := { s.line with reply := none, inHand := none } }) ∧
    (s.Listening → exec (.restart []) s = .next ((s.receive .idle).sendReply restartVerb [] .ok [])) ∧
    exec .busyWindowEnd s = .next { s with yard := { s.yard with busyWindow := false } } ∧
    (s.yard.save = some c →
      exec .saveComplete s = .next { s with store := some c.copy, yard := { s.yard with save := none, unsaved := false } })

/-- CLR clears every sticky flag of its group and no other, gives the group as GRP would have given it before, and GRP clears
nothing; a group outside 0 to 7, and a missing or extra argument, are refused RA (R188, R189). -/
def Obligations.ClrClearsItsGroup : Prop :=
  ∀ (s : State) (w : Text) (n : Fin 8), s.Listening → parseNum w = some n.val →
    exec (.grp [w]) s = .next ((s.receive .idle).sendReply grpVerb [w] .ok (s.groupData n)) ∧
    exec (.clr [w]) s = .next (({ (s.receive .idle) with flags := s.flags.clearGroup n }).sendReply clrVerb [w] .ok (s.groupData n)) ∧
    (∀ f : Flag, (s.flags.clearGroup n).get f = (s.flags.get f && f.group != n)) ∧
    (∀ args : List Text, (∀ v m, args = [v] → parseNum v = some m → 7 < m) →
      exec (.grp args) s = .next (s.refusedWith grpVerb args .ra) ∧ exec (.clr args) s = .next (s.refusedWith clrVerb args .ra))

/-- ATTN sets the mask, its data the mask before, and the output follows summary and mask; summary bit n is set exactly when a flag of
group n stands set; while RESET is held low it is released; any other words are refused RA (R187, R190). -/
def Obligations.AttnFollowsSummaryAndMask : Prop :=
  ∀ (s : State) (w : Text) (m : BitVec 8), s.Listening → parseHexByte w = some m →
    exec (.attn [w]) s = .next
      (({ s.receive .idle with line := { (s.receive .idle).line with mask := m } }).sendReply attnVerb [w] .ok [hexByte s.line.mask]) ∧
    (s.attn = true ↔ ∃ n : Fin 8, s.line.mask.getLsbD n.val = true ∧ ∃ f ∈ groupFlags n, s.shows f = true) ∧
    (∀ u : State, u.yard.resetHeld = true → u.attn = false) ∧
    (∀ args : List Text, (∀ v, args = [v] → parseHexByte v = none) → exec (.attn args) s = .next (s.refusedWith attnVerb args .ra))

/-! ### Reads -/

/-- The reads of every chapter change nothing but the line; DAY's header alone marks the closed day taken, where one is held (R35, R61, R86,
R130, R132, R133, R134, R154, R180). Some items have the model's spelling (log entry 6). -/
def Obligations.ReadsChangeNothing : Prop :=
  ∀ (s : State) (hw vw pw dw mw : Text) (h : HolderId) (side : Side) (p : PathId) (d : DistrictId) (m : MeterId), s.Listening →
    parseHolder hw = some h → parseSide vw = some side → parsePath pw = some p → parseDistrict dw = some d →
    parseMeter mw = some m →
    exec (.yard []) s = .next ((s.receive .idle).sendReply yardVerb [] .ok s.yardData) ∧
    exec (.valve [hw, vw]) s = .next ((s.receive .idle).sendReply valveVerb [hw, vw] .ok (s.valveData h side)) ∧
    exec (.orders [hw]) s = .next ((s.receive .idle).sendReply ordersVerb [hw] .ok
      (items Order.data (s.active h) ++ items Order.data (s.followOn h))) ∧
    exec (.path [pw]) s = .next ((s.receive .idle).sendReply pathVerb [pw] .ok (s.pathData p)) ∧
    exec (.dist [dw]) s = .next ((s.receive .idle).sendReply distVerb [dw] .ok (s.distData d)) ∧
    exec (.meter [mw]) s = .next ((s.receive .idle).sendReply meterVerb [mw] .ok (s.meterData m)) ∧
    exec (.acct [mw]) s = .next ((s.receive .idle).sendReply acctVerb [mw] .ok (s.acctData m)) ∧
    exec (.dayAcct [mw]) s = .next ((s.receive .idle).sendReply dayVerb [mw] .ok
      (items (fun c => (c.accounts.get m).data) s.accounts.closed)) ∧
    exec (.bal []) s = .next ((s.receive .idle).sendReply balVerb [] .ok
      (items (fun c => decimal c.day :: c.figures ++ c.marks) s.accounts.closed)) ∧
    exec .day s = .next (s.takeDay.receive .idle |>.sendReply dayVerb [] .ok (items ClosedDay.header s.accounts.closed)) ∧
    (∀ c, s.accounts.closed = some c → s.takeDay = { s with accounts := { s.accounts with closed := some { c with taken := true } } }) ∧
    (s.accounts.closed = none → s.takeDay = s)

/-- BOOSTER returns the booster record in the order of R166 and changes nothing but the line. -/
def Obligations.BoosterReadGivesTheRecord : Prop :=
  ∀ (s : State), s.Listening →
    exec (.booster []) s = .next ((s.receive .idle).sendReply boosterVerb [] .ok
      ([s.booster.state.name, item DistrictId.name s.booster.granted, item DistrictId.name s.booster.boosted,
        yesNo s.booster.withdrawalPending] ++
       (if s.booster.queue = [] then [noneItem] else s.booster.queue.map DistrictId.name) ++
       [item decimal s.booster.timer, item Contact.name s.booster.contact,
        (if s.booster.start then "START".toList else "STOP".toList), item DistrictId.name s.booster.selector,
        (match s.booster.state with | .fault c => BoosterFault.name c | _ => noneItem),
        (if s.settings.booster.enabled then "ENABLE".toList else "DISABLE".toList), decimal s.settings.booster.head,
        decimal s.settings.booster.runUp, decimal s.settings.booster.alignment]))

/-- HOLDER computes a stock where one can be had, keeps it as last stock with the clock time, and changes nothing else but the line; an
unavailable stock leaves the last stock (R18, R19, R111). -/
def Obligations.HolderReadKeepsTheStock : Prop :=
  ∀ (s : State) (hw : Text) (h : HolderId), s.Listening → parseHolder hw = some h →
    exec (.holder [hw]) s = .next (((s.receive .idle).takeStock h).sendReply holderVerb [hw] .ok ((s.takeStock h).holderData h)) ∧
    (∀ (g : List Lift) (v t : Nat), (s.holder h).lost = false → (s.holderSettings h).geometry = some g →
      (s.holder h).height.isSome = true → (s.holder h).volume = some v → (s.holder h).temperature = some t →
      s.takeStock h = s.setHolder h { s.holder h with
        lastStock := some ⟨v * factor s.stockBarometer (s.holder h).nominal t / 10000, s.yard.clock⟩ }) ∧
    ((s.holder h).lost = true ∨ (s.holder h).height = none ∨ (s.holderSettings h).geometry = none ∨
      (s.holder h).temperature = none → s.takeStock h = s)

/-! ### Settings of the store -/

/-- STROKE in every mode brings the limit within 20 to 300; PRIO and CLOCK START outside RUN set the path's mode and the start hour. Each of
the three gives the value before as data and sets the unsaved mark, even where the value stays the same (R33, R85, R175, R176). SAVE outside
RUN begins the save of the working copy, gives no data, and leaves the unsaved mark (R177); the 2 s it begins with are the model's (log entry
5). Other words are refused RA, and RUN refuses PRIO, CLOCK START and SAVE RM, whatever their words. -/
def Obligations.YardSettings : Prop :=
  ∀ (s : State) (hw nw pw mw sw : Text) (h : HolderId) (n : Nat) (p : PathId) (m : Priority) (hour : Nat), s.Listening →
    parseHolder hw = some h → parseNum nw = some n → parsePath pw = some p → parsePriority mw = some m →
    parseNum sw = some hour → hour ≤ 23 →
    exec (.stroke [hw, nw]) s = .next
      ((((s.receive .idle).setHolderSettings h { s.holderSettings h with strokeLimit := max 20 (min n 300) }).markUnsaved).sendReply
        strokeVerb [hw, nw] (if 20 ≤ n ∧ n ≤ 300 then .ok else .cl) [decimal (s.holderSettings h).strokeLimit]) ∧
    (s.yard.mode ≠ .run →
      exec (.prio [pw, mw]) s = .next
        ((({ s.receive .idle with settings := { s.settings with priority := s.settings.priority.set p m } }).markUnsaved).sendReply
          prioVerb [pw, mw] .ok [(s.settings.priority.get p).name]) ∧
      exec (.clockStart [sw]) s = .next
        ((({ s.receive .idle with settings := { s.settings with startHour := hour } }).markUnsaved).sendReply
          clockVerb [startWord, sw] .ok [decimal s.settings.startHour]) ∧
      exec (.save []) s = .next
        (({ s.receive .idle with yard := { s.yard with save := some ⟨s.settings, 2⟩ } }).sendReply saveVerb [] .ok []) ∧
      (∀ args, parsePrio args = none → exec (.prio args) s = .next (s.refusedWith prioVerb args .ra)) ∧
      (∀ args, (∀ vw v, args = [vw] → parseNum vw = some v → 23 < v) →
        exec (.clockStart args) s = .next (s.refusedWith clockVerb (startWord :: args) .ra)) ∧
      (∀ args, args ≠ [] → exec (.save args) s = .next (s.refusedWith saveVerb args .ra))) ∧
    (s.yard.mode = .run → ∀ args, exec (.prio args) s = .next (s.refusedWith prioVerb args .rm) ∧
      exec (.clockStart args) s = .next (s.refusedWith clockVerb (startWord :: args) .rm) ∧
      exec (.save args) s = .next (s.refusedWith saveVerb args .rm)) ∧
    (∀ args, parseHolderNum args = none → exec (.stroke args) s = .next (s.refusedWith strokeVerb args .ra))

/-- The pulse value and the default line conditions outside RUN, clamped, and the calorific value in every mode, never clamped;
CV and METER DEFAULT refused RA for other words, and METER DEFAULT refused RM in RUN (R124, R130, R131). Each sets the unsaved mark (R176). -/
def Obligations.AccountSettings : Prop :=
  ∀ (s : State) (mw nw gw tw : Text) (m : MeterId) (n g t : Nat), s.Listening →
    parseMeter mw = some m → parseNum nw = some n → parseNum gw = some g → parseNum tw = some t →
    (s.yard.mode ≠ .run →
      exec (.meterSet [mw, nw]) s = .next
        ((({ s.receive .idle with settings := { s.settings with pulse := s.settings.pulse.set m (max 1 (min n 100)) } }).markUnsaved
          ).sendReply meterVerb [mw, nw] (if 1 ≤ n ∧ n ≤ 100 then .ok else .cl) [decimal (s.settings.pulse.get m)]) ∧
      exec (.meterDefault [gw, tw]) s = .next
        ((({ s.receive .idle with
             settings := { s.settings with lineGauge := min g 300, lineTemperature := min t 120 } }).markUnsaved).sendReply
          meterVerb [defaultWord, gw, tw] (if g ≤ 300 ∧ t ≤ 120 then .ok else .cl)
          [decimal s.settings.lineGauge, decimal s.settings.lineTemperature])) ∧
    (300 ≤ n ∧ n ≤ 700 →
      exec (.cv [mw, nw]) s = .next
        ((({ s.receive .idle with settings := { s.settings with cv := s.settings.cv.set m n } }).markUnsaved).sendReply
          cvVerb [mw, nw] .ok [decimal (s.settings.cv.get m)])) ∧
    (¬(300 ≤ n ∧ n ≤ 700) → exec (.cv [mw, nw]) s = .next (s.refusedWith cvVerb [mw, nw] .ra)) ∧
    (∀ args, parseMeterNum args = none → exec (.cv args) s = .next (s.refusedWith cvVerb args .ra)) ∧
    (∀ args, s.yard.mode ≠ .run → parseDefaults args = none →
      exec (.meterDefault args) s = .next (s.refusedWith meterVerb (defaultWord :: args) .ra)) ∧
    (∀ args, s.yard.mode = .run → exec (.meterDefault args) s = .next (s.refusedWith meterVerb (defaultWord :: args) .rm))

/-- SCHED replaces the schedule by the points given, sorted by minute and each setpoint within 10 to 150; FOG brings the lift to at most
30, in no store, and the effective setpoint is then the least of 150 and the active point plus the lift; each is refused
RA for other words, and SCHED for no point, more than 8, or one minute twice. The active point is the latest at or before the minute of
day, and the last of the schedule before the first point and while the clock is unset (R138, R139, R140, R176). -/
def Obligations.ScheduleAndFog : Prop :=
  ∀ (s : State) (dw nw : Text) (ws : List Text) (d : DistrictId) (n : Nat) (ps : List SchedulePoint), s.Listening →
    parseDistrict dw = some d → parseNum nw = some n → parsePoints ws = some ps → 1 ≤ ps.length → ps.length ≤ 8 →
    (ps.map SchedulePoint.minute).Nodup →
    (∃ new : List SchedulePoint,
      exec (.sched (dw :: ws)) s = .next
        ((((s.receive .idle).setDistrictSettings d { s.districtSettings d with schedule := new }).markUnsaved).sendReply schedVerb
          (dw :: ws) (if ∀ p ∈ ps, 10 ≤ p.setpoint ∧ p.setpoint ≤ 150 then .ok else .cl)
          ((s.districtSettings d).schedule.flatMap fun p => [minuteText p.minute, decimal p.setpoint])) ∧
      new.Perm (ps.map fun p => { p with setpoint := max 10 (min p.setpoint 150) }) ∧
      new.Pairwise fun p q => p.minute < q.minute) ∧
    (∃ t : State,
      exec (.fog [dw, nw]) s = .next (t.sendReply fogVerb [dw, nw] (if n ≤ 30 then .ok else .cl) [decimal (s.district d).fogLift]) ∧
      t = (s.receive .idle).setDistrict d { s.district d with fogLift := min n 30 } ∧
      t.setpoint d = min 150 ((s.activePoint d).setpoint + min n 30)) ∧
    (∀ (vw : Text) (vs : List Text), parseDistrict vw = none ∨ parsePoints vs = none ∨
        (∃ qs, parsePoints vs = some qs ∧ (qs = [] ∨ 8 < qs.length ∨ ¬(qs.map SchedulePoint.minute).Nodup)) →
      exec (.sched (vw :: vs)) s = .next (s.refusedWith schedVerb (vw :: vs) .ra)) ∧
    exec (.sched []) s = .next (s.refusedWith schedVerb [] .ra) ∧
    (∀ args, parseFog args = none → exec (.fog args) s = .next (s.refusedWith fogVerb args .ra)) ∧
    (∀ e, s.setpoint e = min 150 ((s.activePoint e).setpoint + (s.district e).fogLift)) ∧
    (∀ e, scheduleOk (s.districtSettings e).schedule = true →
      s.activePoint e ∈ (s.districtSettings e).schedule ∧
      (∀ c q, s.yard.clock = some c → q ∈ (s.districtSettings e).schedule → q.minute ≤ c.tod / 60 →
        (s.activePoint e).minute ≤ c.tod / 60 ∧ q.minute ≤ (s.activePoint e).minute) ∧
      (s.yard.clock = none ∨ (∃ c, s.yard.clock = some c ∧ ∀ q ∈ (s.districtSettings e).schedule, c.tod / 60 < q.minute) →
        ∀ q ∈ (s.districtSettings e).schedule, q.minute ≤ (s.activePoint e).minute))

/-- GOVERN outside RUN writes the eight numbers within their ranges, brings the loading within the new limits, and clamps a supplied
district at once (R153, R148). -/
def Obligations.GovernSetsTheNumbers : Prop :=
  ∀ (s : State) (args : List Text) (d : DistrictId) (g : Governing), s.Listening → s.yard.mode ≠ .run →
    parseGovern args = some (d, g) →
    ∃ t : State, exec (.govern args) s = .next
        (t.markUnsaved.sendReply governVerb args (if g.within = g then .ok else .cl) (s.districtSettings d).governing.items) ∧
      t.districtSettings d = { s.districtSettings d with governing := g.within } ∧
      (t.district d).loading = (match t.supplyLimit d with
        | none => max g.within.minimum (min (s.district d).loading g.within.maximum)
        | some l => min l (max g.within.minimum (min (s.district d).loading g.within.maximum))) ∧
      (∀ e, e ≠ d → t.district e = s.district e ∧ t.districtSettings e = s.districtSettings e) ∧
      t.outer = ((s.receive .idle).setDistrictSettings d { s.districtSettings d with governing := g.within }).outer ∧
      t.works = s.works ∧ t.booster = s.booster

/-- BOOST outside its CLEAR form sets the four settings within their ranges. A disable drops boost, grant and queue: the booster runs down
from RUN-UP, RUNNING and ALIGNING, and every district is left unboosted with no request; otherwise the booster stands. A loading above the
supply limit under the new head, or without it, is brought down to it with CLAMPED, and no other loading moves (R164, R165, R151, R148). -/
def Obligations.BoostSetsTheBooster : Prop :=
  ∀ (s : State) (args : List Text) (c : BoosterSettings), s.Listening → parseBoost args = some c →
    ∃ t : State, exec (.boost args) s = .next
        (t.markUnsaved.sendReply boostVerb args (if c.within = c then .ok else .cl) s.settings.booster.items) ∧
      t.settings.booster =
        ⟨c.enabled, max 20 (min c.head 80), max 20 (min c.runUp 240), max 10 (min c.alignment 120)⟩ ∧
      (c.enabled = false → s.settings.booster.enabled = true →
        t.booster = s.booster.dropped ∧
        (s.BoosterOk → s.LoadingOk → ∀ d, t.district d = { s.district d with
          boosted := false, request := .none, releaseRun := 0, loading := t.limited d (s.district d).loading })) ∧
      (c.enabled = true ∨ s.settings.booster.enabled = false →
        t.booster = s.booster ∧
        (s.BoosterOk → s.LoadingOk → ∀ d, t.district d = { s.district d with loading := t.limited d (s.district d).loading })) ∧
      (∀ d, (t.district d).loading < (s.district d).loading → t.flags.get (.district d .clamped) = true) ∧
      t.outer = ({ s.receive .idle with settings := { s.settings with booster := t.settings.booster } } : State).outer ∧
      t.works = s.works ∧ (∀ args', parseBoost args' = none → exec (.boost args') s = .next (s.refusedWith boostVerb args' .ra))

/-- GEOM outside RUN, where it is not refused, writes the geometry, drops stops that no longer fit, and takes R3's steps: from a present
height the volume, the cupped flags as at a first reading, the carried lifts and the pressure, with CUP for a change of the carried lifts;
the stop states, an entry with its flag; and the loss timer of a holder that had no geometry (R3, R8, R10, R12). With no height present the
cupped flags are clear (the model's, log entry 32). It is refused RS for a PROVING order or for the stops of an IN holder that no longer fit,
and RA for a count, value or sum outside its range. -/
def Obligations.GeomReplacesTheGeometry : Prop :=
  ∀ (s : State) (args : List Text) (h : HolderId) (g : List Lift), s.Listening → s.yard.mode ≠ .run →
    (parseGeom args = some (h, g) → s.geomBarred h g = false →
      ∃ t : State, exec (.geom args) s = .next (t.sendReply geomVerb args .ok (geometryItems (s.holderSettings h).geometry)) ∧
        t.holderSettings h = { s.holderSettings h with
          geometry := some g, stops := (s.holderSettings h).stops.filter fun st => st.fit (totalTravel g) } ∧
        (let r : HolderRec := { s.holder h with
           lossTimer := if (s.holderSettings h).geometry = none then some 30 else (s.holder h).lossTimer,
           atTop := (t.holder h).atTop, atLow := (t.holder h).atLow, lastStock := (t.holder h).lastStock,
           trailing := (t.holder h).trailing }
         (∀ v, (s.holder h).height = some v →
           let cupped := (boundaries 0 g).map fun b => decide (b ≤ v)
           let carried := if v ≤ 2 then 0 else 1 + cupped.count true
           t.holder h = { r with volume := some (volumeAt g v), cupped := cupped, carried := some carried,
                                 nominal := nominalOf g carried } ∧
           (∀ c, (s.holder h).carried = some c → c ≠ carried → t.flags.get (.holder h .cup) = true)) ∧
         ((s.holder h).height = none → t.holder h = { r with cupped := List.replicate (g.length - 1) false })) ∧
        (∀ st v, (t.holderSettings h).stops = some st → (s.holder h).height = some v →
          (t.holder h).atTop = decide (st.top ≤ v) ∧ (t.holder h).atLow = decide (v ≤ st.low) ∧
          (st.top ≤ v → (s.holder h).atTop = false → t.flags.get (.holder h .top) = true) ∧
          (v ≤ st.low → (s.holder h).atLow = false → t.flags.get (.holder h .low) = true)) ∧
        (∀ st, (t.holderSettings h).stops = some st → (s.holder h).height = none →
          (t.holder h).atTop = (s.holder h).atTop ∧ (t.holder h).atLow = (s.holder h).atLow) ∧
        ((t.holderSettings h).stops = none → (t.holder h).atTop = false ∧ (t.holder h).atLow = false) ∧
        t.yard = { s.yard with unsaved := true, mode := t.yard.mode } ∧ t.store = s.store ∧ t.line = (s.receive .idle).line ∧
        t.settings = (s.setHolderSettings h (t.holderSettings h)).settings ∧
        t.accounts = { s.accounts with day := t.accounts.day } ∧
        (∀ k, k ≠ h → (t.holder k).observed = (s.holder k).observed)) ∧
    (parseGeom args = some (h, g) → s.geomBarred h g = true → exec (.geom args) s = .next (s.refusedWith geomVerb args .rs)) ∧
    (parseGeom args = none → exec (.geom args) s = .next (s.refusedWith geomVerb args .ra)) ∧
    (s.geomBarred h g = true ↔ (∃ o, s.active h = some o ∧ o.state = .proving) ∨
      ((s.holderSettings h).service = .inService ∧ ∃ st, (s.holderSettings h).stops = some st ∧
        ¬(12 ≤ st.top ∧ st.top ≤ totalTravel g ∧ 6 ≤ st.low ∧ st.low + 60 ≤ st.top))) ∧
    (∀ (hw nw : Text) (ws : List Text) (k : HolderId) (n : Nat) (ls : List Lift),
      parseHolder hw = some k → parseNum nw = some n → parseLifts ws = some ls →
      parseGeom (hw :: nw :: ws) =
        if ls.length = n ∧ 1 ≤ n ∧ n ≤ 4 ∧ (∀ l ∈ ls, 60 ≤ l.travel ∧ l.travel ≤ 480 ∧ 100 ≤ l.perInch ∧ l.perInch ≤ 9999 ∧
            10 ≤ l.step ∧ l.step ≤ 100) ∧ (ls.map Lift.step).sum ≤ 300 then some (k, ls)
        else none) ∧
    (∀ ws, (∀ (hw nw : Text) (vs : List Text), ws = hw :: nw :: vs →
        parseHolder hw = none ∨ parseNum nw = none ∨ parseLifts vs = none) → parseGeom ws = none)

/-- STOPS outside RUN writes both stops where they fit; the stop states are then those of the present height (R4, R13, R14). -/
def Obligations.StopsSetsTheStops : Prop :=
  ∀ (s : State) (hw tw lw : Text) (h : HolderId) (g : List Lift) (top low : Nat), s.Listening → s.yard.mode ≠ .run →
    parseHolder hw = some h → parseNum tw = some top → parseNum lw = some low → (s.holderSettings h).geometry = some g →
    (12 ≤ top ∧ top ≤ totalTravel g ∧ 6 ≤ low ∧ low + 60 ≤ top →
      ∃ t : State, exec (.stops [hw, tw, lw]) s = .next (t.sendReply stopsVerb [hw, tw, lw] .ok (stopsItems (s.holderSettings h).stops)) ∧
        t.holderSettings h = { s.holderSettings h with stops := some ⟨top, low⟩ } ∧
        (∀ v, (s.holder h).height = some v →
          (t.holder h).atTop = decide (top ≤ v) ∧ (t.holder h).atLow = decide (v ≤ low)) ∧
        t.outer = ((s.receive .idle).setHolderSettings h { s.holderSettings h with stops := some ⟨top, low⟩ }).markUnsaved.outer ∧
        (∀ k, k ≠ h → (t.holder k).observed = (s.holder k).observed)) ∧
    (¬(12 ≤ top ∧ top ≤ totalTravel g ∧ 6 ≤ low ∧ low + 60 ≤ top) →
      exec (.stops [hw, tw, lw]) s = .next (s.refusedWith stopsVerb [hw, tw, lw] .ra))

/-- SERVICE outside RUN places a holder IN with geometry and stops, OUT with both slots empty, and is refused RS otherwise (R5). OUT of an IN holder
commands both its valves closed and takes it off every path as granted holder: a path that it had stands EMPTY and unserved, one from which it
was going out in stage FIRST stands with the successor, and one granted to it in stage SECOND loses its grant (R5, R82; the last is log entry
16). That IN
when IN and OUT when OUT leave the unsaved mark, and that they too look for survey end and the opening snapshot, are the model's (log
entries 18 and 20). -/
def Obligations.ServicePlacesTheHolder : Prop :=
  ∀ (s : State) (hw w : Text) (h : HolderId) (v : Service), s.Listening → s.yard.mode ≠ .run →
    parseHolder hw = some h → parseService w = some v →
    ((v = (s.holderSettings h).service ∨
        (v = .inService ∧ (s.holderSettings h).geometry.isSome = true ∧ (s.holderSettings h).stops.isSome = true) ∨
        (v = .outOfService ∧ s.active h = none ∧ s.followOn h = none)) →
      ∃ t : State, exec (.service [hw, w]) s = .next (t.sendReply serviceVerb [hw, w] .ok [Service.name (s.holderSettings h).service]) ∧
        t.settings = (s.setHolderSettings h { s.holderSettings h with service := v }).settings ∧
        t.yard = { s.yard with mode := t.yard.mode, unsaved := s.yard.unsaved || v != (s.holderSettings h).service } ∧
        t.store = s.store ∧ t.line = (s.receive .idle).line ∧ t.accounts = { s.accounts with day := t.accounts.day } ∧
        (∀ k, (t.holder k).observed = (s.holder k).observed)) ∧
    (v = .outOfService → (s.holderSettings h).service = .inService → s.active h = none → s.followOn h = none →
      let u := ((s.receive .idle).setHolderSettings h { s.holderSettings h with service := .outOfService }).serviceOut h
      let t := u.markUnsaved.openingSnapshot.settle
      exec (.service [hw, w]) s = .next (t.sendReply serviceVerb [hw, w] .ok [Service.name .inService]) ∧
      (∀ side, t.valve h side = ((s.valve h side).closeCommand (s.holderSettings h).strokeLimit s.yard.clock).1) ∧
      (s.PathsOk →
        (∀ p g, (t.path p).state.grant = some g → g.holder ≠ h) ∧
        (∀ p k, (s.path p).state = .granted ⟨h, k⟩ →
          u.path p = { s.path p with state := .empty, unserved := true } ∧ t.flags.get (.path p .unserved) = true) ∧
        (∀ p g cause, (s.path p).state = .changeover .first (some g) h cause →
          u.path p = { s.path p with state := .granted g, unserved := true } ∧ t.flags.get (.path p .unserved) = true) ∧
        (∀ p k out cause, (s.path p).state = .changeover .second (some ⟨h, k⟩) out cause →
          u.path p = { s.path p with state := .changeover .second none out cause, unserved := true } ∧
          t.flags.get (.path p .unserved) = true))) ∧
    ((v = .inService ∧ (s.holderSettings h).service = .outOfService ∧
        ((s.holderSettings h).geometry = none ∨ (s.holderSettings h).stops = none) ∨
      v = .outOfService ∧ (s.holderSettings h).service = .inService ∧ s.slotFilled h = true) →
      exec (.service [hw, w]) s = .next (s.refusedWith serviceVerb [hw, w] .rs))

/-! ### The yard supervisor (chapter 10) -/

/-- MODE in the three modes (R171): refused RM in SURVEY, RA for another word elsewhere; RUN from HOLD exactly where the survey conditions
hold. HOLD entry from RUN ends every STARTING, RUNNING and OVERRUN order HOLD with its record and promotes its follow-on READY (R60),
empties every path and marks none (R84), commands the open, opening and MOVED closing valves closed (R32), drops the booster's boost, grant
and queue (R164), and leaves every district unsupplied, unboosted and without a request at the loading it had (R149, R151). In SURVEY the
mode becomes RUN, with the MODE flag and the choice on every path, at a look that finds the clock set, a holder IN, and every IN holder
with geometry and height, not LOST and with both valves out of UNKNOWN (R170); every other look changes nothing. -/
def Obligations.ModeChangesTheYard : Prop :=
  ∀ (s : State) (w : Text) (args : List Text), s.Listening →
    (s.yard.mode = .survey → exec (.mode args) s = .next (s.refusedWith modeVerb args .rm)) ∧
    (s.yard.mode ≠ .survey → (∀ v, args = [v] → v ≠ "RUN".toList ∧ v ≠ "HOLD".toList) →
      exec (.mode args) s = .next (s.refusedWith modeVerb args .ra)) ∧
    (s.yard.mode = .run → w = "HOLD".toList →
      ∃ t : State, exec (.mode [w]) s = .next (t.sendReply modeVerb [w] .ok ["RUN".toList]) ∧ t.yard.mode = .hold ∧
        t.flags.get (.yard .mode) = true ∧ (∀ p, t.path p = { s.path p with state := .empty }) ∧
        (∀ p, t.flags.get (.path p .unserved) = s.flags.get (.path p .unserved)) ∧
        (∀ h o, s.active h = some o → o.counting = true ∨ o.state = .starting →
          o.finish h .hold s.yard.clock none none ∈ t.finished ∧ t.followOn h = none ∧
          (s.followOn h = none → t.active h = none) ∧
          (∀ f, s.followOn h = some f → t.flags.get (.order h .promoted) = true ∧
            (f.kind ≠ .prove → t.active h = some { f with state := .ready }))) ∧
        (∀ h, s.active h = none ∨ (∃ o, s.active h = some o ∧ o.counting = false ∧ o.state ≠ .starting ∧ o.state ≠ .ready) →
          t.active h = s.active h) ∧
        (∀ h side, t.valve h side = match (s.valve h side).state with
          | .opened => ((s.valve h side).closeCommand (s.holderSettings h).strokeLimit s.yard.clock).1
          | .opening _ => ((s.valve h side).closeCommand (s.holderSettings h).strokeLimit s.yard.clock).1
          | .closing .moved => ((s.valve h side).closeCommand (s.holderSettings h).strokeLimit s.yard.clock).1
          | _ => s.valve h side) ∧
        t.booster.queue = [] ∧
        (s.BoosterOk → t.booster = s.booster.dropped ∧ ∀ d, t.district d = { s.district d with
          supplying := none, boosted := false, request := .none, releaseRun := 0 }) ∧
        t.outer = ({ s.receive .idle with yard := { s.yard with mode := .hold } } : State).outer ∧
        (∀ k, (t.holder k).observed = (s.holder k).observed ∧ (t.holder k).trailing = (s.holder k).trailing)) ∧
    (s.yard.mode = .hold → w = "RUN".toList → s.surveyed = true →
      ∃ t : State, exec (.mode [w]) s = .next (t.choices.sendReply modeVerb [w] .ok ["HOLD".toList]) ∧
        t = ({ s.receive .idle with yard := { s.yard with mode := .run } }).raise (.yard .mode)) ∧
    (s.yard.mode = .hold → w = "RUN".toList → s.surveyed = false →
      exec (.mode [w]) s = .next (s.refusedWith modeVerb [w] .rs)) ∧
    ((s.yard.mode = .run ∧ w = "RUN".toList ∨ s.yard.mode = .hold ∧ w = "HOLD".toList) →
      exec (.mode [w]) s = .next ((s.receive .idle).sendReply modeVerb [w] .ok [w])) ∧
    (s.surveyed = true ↔ s.yard.clock.isSome = true ∧ (∃ h, (s.holderSettings h).service = .inService) ∧
      ∀ h, (s.holderSettings h).service = .inService → (s.holderSettings h).geometry.isSome = true ∧
        (s.holder h).height.isSome = true ∧ (s.holder h).lost = false ∧ ∀ side, (s.valve h side).state ≠ .unknown) ∧
    (s.yard.mode = .survey → s.surveyed = true →
      let t := ({ s with yard := { s.yard with mode := .run } }).raise (.yard .mode)
      s.surveyEnd = t.choices ∧ s.settle = t.choices) ∧
    (s.yard.mode ≠ .survey ∨ s.surveyed = false → s.surveyEnd = s ∧ s.settle = s.choices)

/-- CLOCK on an unset clock sets it and opens the first gas day SHORT; its open stock is the sum of the stocks of the IN-service holders
where each has one, and absent otherwise (R122, R123, R173). In SURVEY the mode becomes RUN, with the MODE flag, exactly where the survey
conditions then hold (R170). -/
def Obligations.FirstClockOpensTheDay : Prop :=
  ∀ (s : State) (dw tw : Text) (day tod : Nat), s.Listening → s.yard.clock = none →
    parseNum dw = some day → 1 ≤ day → day ≤ 65535 → parseSeconds tw = some tod →
    ∃ (t : State) (d : DayRec), exec (.clock [dw, tw]) s = .next (t.sendReply clockVerb [dw, tw] .ok ["UNSET".toList]) ∧
      t.yard.clock = some ⟨day, tod⟩ ∧ t.accounts.day = some d ∧ d.day = day ∧ d.opened = .short ∧ d.openMark = false ∧
      (∀ m, (d.accounts.get m).total = 0 ∧ (d.accounts.get m).therms = 0 ∧ (d.accounts.get m).peak = none) ∧
      ((∀ h, (s.holderSettings h).service = .inService → s.stock h ≠ none) →
        d.openStock = some ((HolderId.all.filter fun h => (s.holderSettings h).service = .inService).map
          fun h => (s.stock h).getD 0).sum ∧ d.openStockTime = some ⟨day, tod⟩ ∧
        (∀ h k, (s.holderSettings h).service = .inService → s.stock h = some k →
          (t.holder h).lastStock = some ⟨k, some ⟨day, tod⟩⟩)) ∧
      ((∃ h, (s.holderSettings h).service = .inService ∧ s.stock h = none) → d.openStock = none ∧ d.openStockTime = none) ∧
      t.yard.mode = (if s.yard.mode = .survey ∧ t.surveyed = true then .run else s.yard.mode) ∧
      (t.yard.mode ≠ s.yard.mode → t.flags.get (.yard .mode) = true) ∧
      t.outer = ({ s.receive .idle with yard := { s.yard with clock := some ⟨day, tod⟩, mode := t.yard.mode },
                                        accounts := { s.accounts with day := some d } } : State).outer ∧
      (∀ k, (t.holder k).observed = (s.holder k).observed)

/-- CLOCK on a set clock (R173, R174, R129). Within the gas day a trim or jump forward runs the clock on, a trim or jump backward fires
nothing, and naming the present time changes nothing; a forward trim may cross the day end. Running the clock on is its seconds taken one
by one, each with its boundaries (R172), and leaves the clock at the requested time. Any other change of the gas day closes the open day
CLOCK-JUMP at the time before the setting, the interval in hand credited first where anything was gathered, and opens the requested day
SHORT from the close stock. RUN refuses a jump RA, and bad words are RA in every mode. The look for survey end at a CLOCK of no change, and
the barometer value written at the jump, are the model's (log entries 20 and 31). -/
def Obligations.ClockTrims : Prop :=
  ∀ (s : State) (dw tw ew : Text) (now : ClockTime) (tod day : Nat), s.Listening → s.yard.clock = some now →
    parseNum dw = some now.day → 1 ≤ now.day → now.day ≤ 65535 → parseSeconds tw = some tod →
    parseNum ew = some day → 1 ≤ day → day ≤ 65535 → day ≠ now.day →
    let ahead := position tod s.settings.startHour
    let at' := position now.tod s.settings.startHour
    let before := [decimal now.day, timeText now.tod]
    (∀ n, 1 ≤ n → n ≤ 300 ∨ s.yard.mode ≠ .run → at' + n = ahead →
      exec (.clock [dw, tw]) s = .next (((s.receive .idle).advance n).surveyEnd.sendReply clockVerb [dw, tw] .ok before)) ∧
    (∀ n, 1 ≤ n → n ≤ 300 ∨ s.yard.mode ≠ .run → ahead + n = at' →
      exec (.clock [dw, tw]) s = .next (({ s.receive .idle with
          yard := { s.yard with clock := some ⟨now.day, tod⟩ } } : State).surveyEnd.sendReply clockVerb [dw, tw] .ok before)) ∧
    (ahead = at' → exec (.clock [dw, tw]) s = .next ((s.receive .idle).surveyEnd.sendReply clockVerb [dw, tw] .ok before)) ∧
    (s.yard.mode = .run → 300 < (ahead - at') + (at' - ahead) →
      exec (.clock [dw, tw]) s = .next (s.refusedWith clockVerb [dw, tw] .ra)) ∧
    (∀ n, 1 ≤ n → n ≤ 300 → day = (if now.day = 65535 then 1 else now.day + 1) → at' + n = ahead + 86400 →
      exec (.clock [ew, tw]) s = .next (((s.receive .idle).advance n).surveyEnd.sendReply clockVerb [ew, tw] .ok before)) ∧
    (¬(day = (if now.day = 65535 then 1 else now.day + 1) ∧ ahead + 86400 ≤ at' + 300) →
      (s.yard.mode = .run → exec (.clock [ew, tw]) s = .next (s.refusedWith clockVerb [ew, tw] .ra)) ∧
      (∀ d, s.yard.mode ≠ .run → s.accounts.day = some d →
        ∃ (t : State) (r : ClosedDay) (e : DayRec),
          exec (.clock [ew, tw]) s = .next (t.surveyEnd.sendReply clockVerb [ew, tw] .ok before) ∧
          t.yard = { s.yard with clock := some ⟨day, tod⟩ } ∧ t.accounts.closed = some r ∧ t.accounts.day = some e ∧
          r.day = d.day ∧ r.closeTime = now ∧ r.clockJump = true ∧ r.taken = false ∧ r.short = decide (d.opened = .short) ∧
          r.openStock = d.openStock ∧
          e.day = day ∧ e.opened = .short ∧ e.openStock = some r.closeStock ∧ e.openStockTime = some now ∧
          (s.shows .day = true → t.flags.get .overwritten = true) ∧
          (∀ m,
            let i := s.creditInputs s.accounts.barometer.interval m
            let gross := (s.meter m).pulses * s.settings.pulse.get m * factor i.barometer i.gauge i.temperature + (s.meter m).residue
            let credit := if s.accounts.gathered then gross / 10000 else 0
            (r.accounts.get m).total = (d.accounts.get m).total + credit ∧
            (∀ k : Fin 24, (r.accounts.get m).slots.get k = (d.accounts.get m).slots.get k +
              (if k.val = (now.tod / 3600 + 24 - s.settings.startHour) % 24 then credit else 0)) ∧
            (t.meter m).residue = (if s.accounts.gathered then gross % 10000 else (s.meter m).residue) ∧
            (t.meter m).pulses = (if s.accounts.gathered then 0 else (s.meter m).pulses) ∧
            (e.accounts.get m).total = 0 ∧ (e.accounts.get m).therms = 0 ∧ (e.accounts.get m).peak = none ∧
            (∀ k : Fin 24, (e.accounts.get m).slots.get k = 0)) ∧
          t.accounts.barometer = (if s.accounts.gathered then s.accounts.barometer.endInterval else s.accounts.barometer) ∧
          (let u : State := { s with accounts := { s.accounts with barometer := t.accounts.barometer } }
           r.closeStock = ((HolderId.all.filter fun h => (s.holderSettings h).service = .inService).map u.closingStock).sum ∧
           (e.openMark = true ↔ ∃ h, (s.holderSettings h).service = .inService ∧ u.stock h = none)))) ∧
    (∀ ws, (∀ vw uw : Text, ws = [vw, uw] →
        parseSeconds uw = none ∨ ∀ n, parseNum vw = some n → n = 0 ∨ 65535 < n) →
      exec (.clock ws) s = .next (s.refusedWith clockVerb ws .ra)) ∧
    (∀ n, now.tod < 86400 → s.advance n = (List.range n).foldl (fun u _ => u.advance 1) s) ∧
    (∀ u : State, u.yard.resetHeld = false → exec .clockSecond u = .next (u.advance 1)) ∧
    (∀ n, now.tod < 86400 → s.settings.startHour ≤ 23 → at' + n = ahead → (s.advance n).yard.clock = some ⟨now.day, tod⟩) ∧
    (∀ n, now.tod < 86400 → s.settings.startHour ≤ 23 → n ≤ 300 → at' + n = ahead + 86400 →
      (s.advance n).yard.clock = some ⟨if now.day = 65535 then 1 else now.day + 1, tod⟩)

/-- A second of the set clock that meets no six-minute boundary moves the time on and does nothing else. At a six-minute boundary the
interval end is fired, then at a full hour the hour end, then at the start hour the day end, each at the time reached. While the clock is
unset neither a second nor a boundary does anything (R172, R121; that a boundary's row then changes nothing is the model's, log entry
9). -/
def Obligations.ClockSecondMovesTheClock : Prop :=
  ∀ (s : State), s.yard.resetHeld = false →
    (∀ c : ClockTime, s.yard.clock = some c → (c.tod + 1) % 360 ≠ 0 →
      exec .clockSecond s = .next { s with yard := { s.yard with clock := some ⟨c.day, (c.tod + 1) % 86400⟩ } }) ∧
    (∀ c : ClockTime, s.yard.clock = some c → c.tod < 86400 → (c.tod + 1) % 360 = 0 →
      exec .clockSecond s = .next (((s.fireBoundary ((c.tod + 1) % 86400)).setTod ((c.tod + 1) % 86400)))) ∧
    (∀ c : ClockTime, s.yard.clock = some c → c.tod < 86400 → (c.tod + 1) % 360 = 0 →
      let tod := (c.tod + 1) % 86400
      ∃ a b e : State,
        exec .intervalEnd { s with yard := { s.yard with clock := some ⟨c.day, tod⟩ } } = .next a ∧
        (if tod % 3600 = 0 then exec .hourEnd a = .next b else b = a) ∧
        (if tod = s.settings.startHour * 3600 then exec .dayEnd b = .next e else e = b) ∧
        exec .clockSecond s = .next e) ∧
    (s.yard.clock = none → exec .clockSecond s = .next s ∧ exec .intervalEnd s = .next s ∧ exec .hourEnd s = .next s ∧
      exec .dayEnd s = .next s)

/-- A warm restart (R20, R37, R63, R88, R136, R156, R168, R179, R192): SURVEY, WARM alone among the sticky flags, orders and finished list
gone, the line in its reset values, every setting from the store but for stops that do not fit, clock, gathering and every reading kept. A
holder's record is kept wherever its geometry is, its stop states read again, or recomputed where its geometry changed, or bare where it lost
it; one that the reload takes OUT holds no grant and has no valve open. Where the reload disturbs no holder, every valve stands and every path stands with its grants ADOPTED and an
outgoing order's end due as its cause; the booster then stands too, unless the reload disables it. The row standing alone, the flags cleared
last, and what a lost geometry leaves are the model's (log entries 8, 17 and 22). -/
def Obligations.WarmRestartKeepsTheYard : Prop :=
  ∀ (s : State), s.yard.resetHeld = false →
    let c := s.store.getD .factory
    ∃ t : State, exec .warmRestart s = .next t ∧ t.store = s.store ∧
      t.yard = { s.yard with mode := .survey, lastReset := .warm, unsaved := false, busyWindow := true } ∧
      t.flags = { StickyFlags.clear with yard := ⟨false, true, false, false, false⟩ } ∧
      (∀ h, t.active h = none ∧ t.followOn h = none) ∧ t.finished = [] ∧
      t.accounts = { s.accounts with day := t.accounts.day } ∧
      t.line = {
        receiver := .idle, gapRunning := false, inHand := none, reply := none, lastDiscard := none, lastRefusal := none, mask := 0xFF#8 } ∧
      t.settings = { c with holders := t.settings.holders } ∧
      (∀ h, t.holderSettings h = { c.holders.get h with stops := match (c.holders.get h).geometry with
        | none => none
        | some g => (c.holders.get h).stops.filter fun st => st.fit (totalTravel g) }) ∧
      (∀ h, (t.holder h).temperature = (s.holder h).temperature ∧ (t.holder h).trailing = (s.holder h).trailing ∧
        ((t.holderSettings h).geometry = (s.holderSettings h).geometry → (t.holderSettings h).geometry.isSome = true →
          t.holder h = { s.holder h with
            lossTimer := if (s.holder h).lossTimer = none ∧ (s.holder h).lost = false then some 30 else (s.holder h).lossTimer,
            lastStock := (t.holder h).lastStock, atTop := (t.holder h).atTop, atLow := (t.holder h).atLow }) ∧
        (∀ g v, (t.holderSettings h).geometry = some g → (s.holderSettings h).geometry ≠ some g → (s.holder h).height = some v →
          (t.holder h).height = some v ∧ (t.holder h).volume = some (volumeAt g v) ∧
          (t.holder h).nominal = nominalOf g ((t.holder h).carried.getD 0) ∧
          (2 < v → (t.holder h).cupped = (boundaries 0 g).map (fun b => decide (b ≤ v)) ∧
            (t.holder h).carried = some (1 + (t.holder h).cupped.count true)) ∧
          (v ≤ 2 → (t.holder h).carried = some 0)) ∧
        ((t.holderSettings h).geometry = none → (t.holder h).height = none ∧ (t.holder h).volume = none ∧
          (t.holder h).carried = none ∧ (t.holder h).nominal = 0 ∧ (t.holder h).lossTimer = none ∧ (t.holder h).lost = false) ∧
        (∀ st v, (t.holderSettings h).stops = some st → (t.holder h).height = some v →
          (t.holder h).atTop = decide (st.top ≤ v) ∧ (t.holder h).atLow = decide (v ≤ st.low)) ∧
        ((t.holderSettings h).stops = none → (t.holder h).atTop = false ∧ (t.holder h).atLow = false)) ∧
      (∀ h side, (t.valve h side).openC = (s.valve h side).openC ∧ (t.valve h side).shutC = (s.valve h side).shutC) ∧
      (∀ p, (t.path p).lastServed = (s.path p).lastServed) ∧
      (∀ p g, (t.path p).state.grant = some g → g.kind = .adopted) ∧
      (∀ h, (s.holderSettings h).service = .inService → (t.holderSettings h).service = .outOfService →
        (∀ side, (t.valve h side).state.openingOrOpen = false) ∧
        (s.PathsOk → ∀ p g, (t.path p).state.grant = some g → g.holder ≠ h)) ∧
      (∀ d, t.district d = { s.district d with
        loading := (t.district d).loading, supplying := (t.district d).supplying, boosted := (t.district d).boosted,
        releaseRun := (t.district d).releaseRun, request := (t.district d).request }) ∧
      t.booster.contact = s.booster.contact ∧
      (let reclamped (d : DistrictId) : Nat :=
        max (c.districts.get d).governing.minimum (min (s.district d).loading (c.districts.get d).governing.maximum)
       (∀ h, s.reloadsAsItStands h = true) →
        t.valves = s.valves ∧
        (∀ p, t.path p = { s.path p with state := match (s.path p).state with
          | .empty => .empty
          | .granted g => .granted ⟨g.holder, .adopted⟩
          | .changeover stage g out cause => .changeover stage (g.map fun g => ⟨g.holder, .adopted⟩) out
              (match (s.active out).bind Order.endDue with | some due => some due | none => cause) }) ∧
        (c.booster.enabled = true ∨ s.settings.booster.enabled = false →
          t.booster = s.booster ∧
          ∀ d, t.district d = { s.district d with loading := t.limited d (reclamped d) }) ∧
        (c.booster.enabled = false → s.settings.booster.enabled = true →
          t.booster = s.booster.dropped ∧
          (s.BoosterOk → ∀ d, t.district d = { s.district d with boosted := false, request := .none, releaseRun := 0, loading := t.limited d (reclamped d) })))

/-- A cold start loads the store and gives every record its cold-start values (1.12, 2.9, 3.12, 4.10, 7.10, 8.9, 9.7, 11.7); RESET pulled low
loses the line, the reply and the save in hand and nothing else, and while it is held only the cold start acts and ATTN is released (R178, R190,
R191). That the rest stands still while RESET is held is the model's reading (log entry 10). -/
def Obligations.ColdStartAndReset : Prop :=
  ∀ (s : State) (baud : Bool),
    (∃ t : State, exec (.coldStart baud) s = .next t ∧ t.store = s.store ∧ t.settings = s.store.getD .factory ∧ t.yard.mode = .survey ∧
      t.yard.clock = none ∧ t.yard.unsaved = false ∧ t.yard.lastReset = .cold ∧ t.yard.resetHeld = false ∧ t.yard.baudHigh = baud ∧
      t.yard.save = none ∧ t.yard.busyWindow = false ∧
      (∀ h, t.holder h = {
        height := none, readingTime := none,
        lossTimer := if (t.holderSettings h).geometry = none then none else some 30,
        cupped := List.replicate (match (t.holderSettings h).geometry with | none => 0 | some g => g.length - 1) false,
        carried := none, nominal := 0, volume := none, temperature := none, temperatureAge := (t.holder h).temperatureAge,
        atTop := false, atLow := false, lost := false, lastStock := none, trailing := 0 }) ∧
      (∀ h side, t.valve h side = {
        state := .unknown, openC := none, shutC := none, drive := .rest, timer := none, lastChange := none }) ∧
      (∀ h, t.active h = none ∧ t.followOn h = none) ∧ t.finished = [] ∧
      (∀ p, t.path p = { state := .empty, lastServed := none, unserved := false }) ∧
      (∀ d, t.district d = {
        fogLift := 0, loading := (t.districtSettings d).governing.fallback, periodTimer := (t.districtSettings d).governing.period,
        duty := none, check := none, pair := none, reading := none, condition := none, unorderedRun := 0, supplying := none,
        boosted := false, releaseRun := 0, request := .none }) ∧
      t.booster = {
        state := .off, granted := none, boosted := none, withdrawalPending := false, queue := [], timer := none, contact := none,
        start := false, selector := none } ∧
      (∀ m, t.meter m = {
        pulses := 0, saturated := false, gaugeSum := 0, gaugeCount := 0, tempSum := 0, tempCount := 0, lastG := none, lastT := none,
        residue := 0, lastCredit := none } ∧ t.accounts.btu.get m = 0) ∧
      t.accounts.barometer = { value := none, sum := 0, count := 0 } ∧ t.accounts.day = none ∧ t.accounts.closed = none ∧
      t.line = {
        receiver := .idle, gapRunning := false, inHand := none, reply := none, lastDiscard := none, lastRefusal := none, mask := 0xFF#8 } ∧
      t.flags = { StickyFlags.clear with yard := ⟨true, false, false, false, false⟩ } ∧
      t.summary = 0x80#8 ∧ t.attn = true) ∧
    exec .resetAsserted s = .next { s with
      yard := { s.yard with resetHeld := true, save := none },
      line := { s.line with receiver := .idle, gapRunning := false, inHand := none, reply := none } } ∧
    (∀ c : Instr, s.yard.resetHeld = true → (∀ b, c ≠ .coldStart b) → c ≠ .resetAsserted →
      exec c s = .next s ∧ s.attn = false)

/-! ### Holders (chapter 1) -/

/-- A height report out of range, without a value, or for a holder without geometry changes nothing; a valid one restarts the loss timer,
clears LOST, and takes height, reading time and volume, with the carried lifts' pressure (R6, R7, R8, R10, R12). A first reading cups by
the boundaries alone, a later one with the margin of 3 in. either side, and landing clears every flag; a change of the carried lifts sets
CUP (R11, R12). The stop states are those of the height, and an entry sets its flag (R13, R14). The delta goes to the counting order, or
else to the trailing movement, which saturates (R15, R16). In SURVEY, where no order runs, the mode becomes RUN, with the MODE flag,
exactly where the survey conditions then hold (R170). -/
def Obligations.HeightReportIsTaken : Prop :=
  ∀ (s : State) (h : HolderId) (x : Option Int), s.yard.resetHeld = false →
    ((s.holderSettings h).geometry = none → exec (.heightReport h x) s = .next s) ∧
    (∀ g, (s.holderSettings h).geometry = some g →
      ((∀ v : Nat, x = some (v : Int) → totalTravel g + 12 < v) → exec (.heightReport h x) s = .next s) ∧
      (∀ v : Nat, x = some (v : Int) → v ≤ totalTravel g + 12 →
        ∃ t : State, exec (.heightReport h x) s = .next t ∧ (t.holder h).height = some v ∧ (t.holder h).readingTime = s.yard.clock ∧
          (t.holder h).volume = some (volumeAt g v) ∧ (t.holder h).lost = false ∧ (t.holder h).lossTimer = some 30 ∧
          (v ≤ 2 → (t.holder h).carried = some 0 ∧ (t.holder h).nominal = 0) ∧
          (2 < v → (t.holder h).carried = some (1 + (t.holder h).cupped.count true) ∧
            (t.holder h).nominal = nominalOf g (1 + (t.holder h).cupped.count true)) ∧
          (∀ (k b : Nat) (was : Bool), (boundaries 0 g)[k]? = some b →
            (s.holder h).height = none ∨ (s.holder h).cupped[k]? = some was →
            (t.holder h).cupped[k]? = some (
              if v ≤ 2 then false
              else if (s.holder h).height = none then decide (b ≤ v)
              else if b + 3 ≤ v then true else if v + 3 ≤ b then false else was)) ∧
          (∀ n, (s.holder h).carried = some n → (t.holder h).carried ≠ some n → t.flags.get (.holder h .cup) = true) ∧
          (∀ st, (s.holderSettings h).stops = some st →
            (t.holder h).atTop = decide (st.top ≤ v) ∧ (t.holder h).atLow = decide (v ≤ st.low) ∧
            (st.top ≤ v → (s.holder h).atTop = false → t.flags.get (.holder h .top) = true) ∧
            (v ≤ st.low → (s.holder h).atLow = false → t.flags.get (.holder h .low) = true)) ∧
          (let delta : Int := match (s.holder h).height, (s.holder h).volume with
             | some _, some p => (volumeAt g v : Int) - p
             | _, _ => 0
           ((∀ o, s.active h = some o → o.counting = false ∧ o.state ≠ .ready) →
             (t.holder h).trailing = if delta = 0 then (s.holder h).trailing
               else max (-99999999) (min ((s.holder h).trailing + delta) 99999999)) ∧
           (∀ o u, s.active h = some o → o.counting = true → o.body = .transfer u → u.atCount = .stand → u.outgoing = false →
             (∀ st, (s.holderSettings h).stops = some st → st.low < v ∧ v < st.top) → delta ≠ 0 →
             (t.holder h).trailing = (s.holder h).trailing ∧
             ∃ (w : Order) (n : Transfer), (s.countDelta h delta).active h = some w ∧ w.body = .transfer n ∧
               ∃ m, t.active h = some { w with body := .transfer { n with outgoing := m } })) ∧
          (∀ k, k ≠ h → (t.holder k).observed = (s.holder k).observed) ∧
          (s.QuietOutsideRun → t.yard.mode = if s.yard.mode = .survey ∧ t.surveyed = true then .run else s.yard.mode) ∧
          (t.yard.mode ≠ s.yard.mode → t.flags.get (.yard .mode) = true) ∧
          t.outer = ({ s with yard := { s.yard with mode := t.yard.mode },
                              accounts := { s.accounts with day := t.accounts.day } } : State).outer))

/-- The volume at a crown height is the sum over the lifts of the volume per inch times the part of the travel below the crown, heights
above the total travel counting as it (R10). -/
def Obligations.VolumeSumsTheLifts : Prop :=
  ∀ (g : List Lift) (h : Nat),
    volumeAt g h = ((List.range g.length).map fun k =>
      ((g[k]?).map Lift.perInch).getD 0 *
        (min (min h (totalTravel g) - totalTravel (g.take k)) (((g[k]?).map Lift.travel).getD 0))).sum

/-- A loss timer that runs out on a holder not yet LOST makes it LOST with its flag, its last height, volume, cupped flags, carried lifts,
pressure and stop states kept (R8). It ends a STARTING order LOST at once, with its path (R49, R71, R75), puts the end LOST of a RUNNING or
OVERRUN one to the path arbiters (R49, R50), ends a PROVING one INCOMPLETE (R94), and leaves every other order. An adopted flow is handed over
with cause LOST where a holder is eligible, or closed with its path unserved; granted in stage SECOND it is dropped; going out in stage FIRST
the path takes the cause, where none stands (R82, R76). -/
def Obligations.LossMakesTheHolderLost : Prop :=
  ∀ (s : State) (h : HolderId) (n : Nat), s.yard.resetHeld = false → (s.holder h).lossTimer = some n → (s.holder h).lost = false →
    let m : State := (s.setHolder h { s.holder h with lossTimer := none, lost := true }).raise (.holder h .lost)
    let u := m.heightLost h
    ∃ t : State, exec (.lossTimerExpiry h) s = .next t ∧ t = u.choices ∧ (t.holder h).lost = true ∧ (t.holder h).lossTimer = none ∧
      t.flags.get (.holder h .lost) = true ∧ (t.holder h).height = (s.holder h).height ∧ (t.holder h).volume = (s.holder h).volume ∧
      (t.holder h).cupped = (s.holder h).cupped ∧ (t.holder h).carried = (s.holder h).carried ∧
      (t.holder h).nominal = (s.holder h).nominal ∧
      (t.holder h).atTop = (s.holder h).atTop ∧ (t.holder h).atLow = (s.holder h).atLow ∧ t.outer = s.outer ∧
      (∀ k, k ≠ h → (t.holder k).observed = (s.holder k).observed) ∧
      -- the order, on a holder with no adopted flow
      ((∀ p, (s.path p).state.grant ≠ some ⟨h, .adopted⟩) → (∀ p g cause, (s.path p).state ≠ .changeover .first g h cause) →
        (∀ o p, s.PathsOk → s.active h = some o → o.state = .starting → o.path = some p →
          u = (m.endActive .lost h).valveLostOn p h true) ∧
        (∀ o, s.PathsOk → s.active h = some o → o.counting = true → u = m.forceEnd .lost h) ∧
        (∀ o, s.active h = some o → o.state = .proving → u = m.endActive .incomplete h) ∧
        (s.active h = none ∨ (∃ o, s.active h = some o ∧ (o.state = .ready ∨ o.state = .pending)) → u = m)) ∧
      (∀ o, s.active h = some o → o.counting = true → o.outgoing = true → s.PathsOk →
        (∀ p, (s.path p).state.grant ≠ some ⟨h, .adopted⟩) → u = m.forceEnd .lost h) ∧
      -- the adopted flow, with no order that the loss reaches
      ((s.active h = none ∨ ∃ o, s.active h = some o ∧ o.state = .ready) → s.PathsOk → ∀ p,
        ((s.path p).state = .granted ⟨h, .adopted⟩ →
          (∀ k o, s.choose p = some k → k ≠ h → s.active k = some o → u.works = (((m.setPathState p
              (.changeover .first (some ⟨k, .ordered⟩) h (some .lost))).setActive k (some { o with state := .starting })).setValve k p.side
              { s.valve k p.side with state := .opening .commanded, drive := .driveOpen,
                                      timer := some (s.holderSettings k).strokeLimit, lastChange := s.yard.clock }).works) ∧
          ((∀ k, k ≠ h → s.eligible p k = false) →
            u.path p = { s.path p with state := .empty, unserved := true } ∧ u.flags.get (.path p .unserved) = true ∧
            u.valve h p.side = ((s.valve h p.side).closeCommand (s.holderSettings h).strokeLimit s.yard.clock).1)) ∧
        (∀ out cause, (s.path p).state = .changeover .second (some ⟨h, .adopted⟩) out cause →
          u.path p = { s.path p with state := .changeover .second none out cause, unserved := true } ∧
          u.flags.get (.path p .unserved) = true ∧
          u.valve h p.side = ((s.valve h p.side).closeCommand (s.holderSettings h).strokeLimit s.yard.clock).1) ∧
        (∀ out cause, (s.path p).state = .changeover .first (some ⟨h, .adopted⟩) out cause → u = m.failSuccessor p h) ∧
        (∀ g cause, (s.path p).state = .changeover .first g h cause → s.hasOutgoing h = false →
          u = m.setPathState p (.changeover .first g h (some (cause.getD .lost)))))

/-- A holder temperature in 0 to 120 and a far-point gauge reading in 0 to 300 are held with age 0, any other report changes nothing, and
a stale temperature becomes absent (R17, R141). The opening snapshot, attempted at a valid temperature, is taken where an open day has no
open stock and every IN-service holder has a stock: each is written into its last stock, and their sum is the open stock, with the clock
time; every other attempt changes nothing (R123). -/
def Obligations.ReadingsAreHeld : Prop :=
  ∀ (s : State) (h : HolderId) (d : DistrictId) (x : Option Int), s.yard.resetHeld = false →
    (∀ v : Nat, x = some (v : Int) → v ≤ 120 →
      exec (.holderTemperatureReport h x) s = .next
        ((s.setHolder h { s.holder h with temperature := some v, temperatureAge := 0 }).openingSnapshot)) ∧
    ((∀ v : Nat, x = some (v : Int) → 120 < v) → exec (.holderTemperatureReport h x) s = .next s) ∧
    exec (.holderTemperatureStale h) s = .next (s.setHolder h { s.holder h with temperature := none }) ∧
    (∀ v : Nat, x = some (v : Int) → v ≤ 300 →
      exec (.farPointGaugeReport d .duty x) s = .next (s.setDistrict d { s.district d with duty := some ⟨v, 0⟩ }) ∧
      exec (.farPointGaugeReport d .check x) s = .next (s.setDistrict d { s.district d with check := some ⟨v, 0⟩ })) ∧
    (∀ g, (∀ v : Nat, x = some (v : Int) → 300 < v) → exec (.farPointGaugeReport d g x) s = .next s) ∧
    (s.accounts.day = none ∨ (∃ e, s.accounts.day = some e ∧ e.openStock ≠ none) ∨
      (∃ k, (s.holderSettings k).service = .inService ∧ s.stock k = none) → s.openingSnapshot = s) ∧
    (∀ e, s.accounts.day = some e → e.openStock = none → (∀ k, (s.holderSettings k).service = .inService → s.stock k ≠ none) →
      let t := s.openingSnapshot
      t.accounts = { s.accounts with day := some { e with
        openStock := some ((HolderId.all.filter fun k => (s.holderSettings k).service = .inService).map fun k => (s.stock k).getD 0).sum,
        openStockTime := s.yard.clock } } ∧
      (∀ k n, (s.holderSettings k).service = .inService → s.stock k = some n →
        t.holder k = { s.holder k with lastStock := some ⟨n, s.yard.clock⟩ }) ∧
      (∀ k, (s.holderSettings k).service = .outOfService → t.holder k = s.holder k) ∧
      { t with accounts := s.accounts, holders := s.holders } = s)

/-! ### Valves (chapter 2) -/

/-- A report writes both contacts; both made puts a valve not yet in FAULT into FAULT with cause BOTH, at rest, with its flag (R22, R23).
The far contact ends a stroke, and confirms a commanded one (R27). A report off the end that a CLOSED or OPEN valve stands at is movement,
with the MOVED flag, and a MOVED stroke may return (R29, R30). A valve in UNKNOWN is found at an end, or begins its search at the first
report (R31). At an open confirmed the STARTING order runs and its path is served, and in stage FIRST the outgoing valve is commanded
closed and the outgoing order ends (R70, R74); a closed confirmed of the outgoing valve ends stage SECOND (R78); a valve found open in
SURVEY is adopted where a path is free for it, and closed otherwise (R81); one moved open off every path is closed (R83); and a moved stroke
that returns to OPEN is commanded closed again where its holder is outgoing in stage SECOND, and stands elsewhere (R30, R78). That the end of
a closing stroke begun in UNKNOWN brings no look for survey end is the model's (log entry 36). That a report in
FAULT and every report that does nothing more still brings the choice on every path is R68's. -/
def Obligations.ContactsAreRecorded : Prop :=
  ∀ (s : State) (h : HolderId) (side : Side) (a b : Contact), s.yard.resetHeld = false →
    (∃ t : State, exec (.valveContactReport h side a b) s = .next t ∧
      (t.valve h side).openC = some a ∧ (t.valve h side).shutC = some b ∧
      (a = .made → b = .made → (∀ c, (s.valve h side).state ≠ .fault c) →
        (t.valve h side).state = .fault .both ∧ (t.valve h side).drive = .rest ∧ (t.valve h side).timer = none ∧
        t.flags.get (.valve h side .fault) = true) ∧
      (∀ c, (s.valve h side).state = .fault c → (t.valve h side).state = .fault c) ∧
      t.outer = ({ s with yard := { s.yard with mode := t.yard.mode } } : State).outer ∧
      (∀ k, (t.holder k).observed = (s.holder k).observed)) ∧
    (let w : ValveRec := { s.valve h side with openC := some a, shutC := some b }
     let moved (st : ValveState) (drive : Drive) (timer : Option Nat) : State :=
       s.setValve h side { w with state := st, drive := drive, timer := timer, lastChange := s.yard.clock }
     let limit := (s.holderSettings h).strokeLimit
     let x := exec (.valveContactReport h side a b) s
     (a = .made → b = .broken →
       ((s.valve h side).state = .opening .commanded → x = .next ((moved .opened .rest none).openConfirmed h side).choices) ∧
       ((s.valve h side).state = .opening .moved → x = .next (moved .opened .rest none).choices) ∧
       ((s.valve h side).state = .closed →
         x = .next (((moved .opened .rest none).raise (.valve h side .moved)).movedOpen h side).choices) ∧
       ((s.valve h side).state = .closing .moved → x = .next ((moved .opened .rest none).returnedOpen h side).choices) ∧
       ((s.valve h side).state = .unknown → x = .next ((moved .opened .rest none).foundOpen h side).settle) ∧
       ((s.valve h side).state = .opened ∨ (s.valve h side).state = .closing .commanded → x = .next (s.setValve h side w).choices)) ∧
     (a = .broken → b = .made →
       ((s.valve h side).state = .closing .commanded → x = .next ((moved .closed .rest none).closedConfirmed h side).choices) ∧
       ((s.valve h side).state = .closing .moved ∨ (s.valve h side).state = .opening .moved →
         x = .next (moved .closed .rest none).choices) ∧
       ((s.valve h side).state = .opened →
         x = .next (((moved .closed .rest none).raise (.valve h side .moved)).movedShut h side).choices) ∧
       ((s.valve h side).state = .unknown → x = .next ((moved .closed .rest none).provingLook h).settle) ∧
       ((s.valve h side).state = .closed ∨ (s.valve h side).state = .opening .commanded → x = .next (s.setValve h side w).choices)) ∧
     (a = .broken → b = .broken →
       ((s.valve h side).state = .closed →
         x = .next (((moved (.opening .moved) .rest (some limit)).raise (.valve h side .moved)).movedOpen h side).choices) ∧
       ((s.valve h side).state = .opened →
         x = .next (((moved (.closing .moved) .rest (some limit)).raise (.valve h side .moved)).movedShut h side).choices) ∧
       ((s.valve h side).state = .unknown → x = .next (s.setValve h side
         { w with timer := if (s.valve h side).openC = none then some limit else (s.valve h side).timer }).choices) ∧
       (∀ o, (s.valve h side).state = .opening o ∨ (s.valve h side).state = .closing o →
         x = .next (s.setValve h side w).choices)) ∧
     (∀ c, (s.valve h side).state = .fault c → x = .next (s.setValve h side w).choices)) ∧
    (∀ (p : PathId) (k : GrantKind) (o : Order), s.servedBy h p.side = some p → s.active h = some o → o.path = some p →
      o.state = .starting →
      let ran := ((s.setPath p { s.path p with lastServed := some h, unserved := false }).setActive h
        (some { o with state := .running, start := s.yard.clock })).setHolder h { s.holder h with trailing := 0 }
      ((s.path p).state = .granted ⟨h, k⟩ →
        ∃ u : State, s.openConfirmed h p.side = u.stopCheck h ∧ u.works = ran.works ∧ u.outer = s.outer) ∧
      (∀ out cause, (s.path p).state = .changeover .first (some ⟨h, k⟩) out cause → out ≠ h →
        (s.valve out p.side).state = .opened →
        let second := (ran.setPath p
            ⟨.changeover .second (some ⟨h, k⟩) out cause, some h, false⟩).setValve out p.side
          { s.valve out p.side with state := .closing .commanded, drive := .driveClose,
                                    timer := some (s.holderSettings out).strokeLimit, lastChange := s.yard.clock }
        ∃ u : State, s.openConfirmed h p.side = u.stopCheck h ∧ u.outer = s.outer ∧
          (s.hasOutgoing out = false → u.works = second.works) ∧
          (∀ q, s.active out = some q → q.outgoing = true → u.works = ((second.appendFinished
            (q.finish out (match q.endDue with | some d => d.cause | none => .handed) s.yard.clock none none)).setSlots out
              ⟨(s.followOn out).map fun f => { f with state := .ready }, none⟩).works))) ∧
    (∀ (p : PathId) (g : Option Grant) (cause : Option EndDue), s.servedBy h side = some p →
      (s.path p).state = .changeover .second g h cause →
      ∃ u : State, s.closedConfirmed h side = u.provingLook h ∧ u.outer = s.outer ∧
        u.works = (s.setPathState p (match g with | some g => .granted g | none => .empty)).works) ∧
    ((∀ p g cause, s.servedBy h side = some p → (s.path p).state ≠ .changeover .second g h cause) →
      s.closedConfirmed h side = s.provingLook h) ∧
    (∀ p, (pathsOf side).find? (fun q => (s.path q).state = .empty) = some p → s.yard.mode = .survey →
      (s.holderSettings h).service = .inService → (s.holder h).lost = false →
      (∀ o, s.active h = some o → o.kind ≠ .prove) → (s.holder h).atStop p = false →
      (s.valve h side.sister).state.openingOrOpen = false → s.onPath h = false →
      (s.foundOpen h side).works = (s.setPathState p (.granted ⟨h, .adopted⟩)).works ∧
      (s.foundOpen h side).outer = s.outer ∧ (s.foundOpen h side).flags.get (.path p .adopted) = true) ∧
    (((∀ q ∈ pathsOf side, (s.path q).state ≠ .empty) ∨ s.yard.mode ≠ .survey ∨ (s.holderSettings h).service = .outOfService ∨
        (s.holder h).lost = true ∨ (∃ o, s.active h = some o ∧ o.kind = .prove) ∨
        (side = .inlet ∧ (s.holder h).atTop = true) ∨ (side = .outlet ∧ (s.holder h).atLow = true) ∨
        (s.valve h side.sister).state.openingOrOpen = true ∨ s.onPath h = true) →
      s.foundOpen h side = s.closeValve h side) ∧
    (s.movedOpen h side = match s.servedBy h side with
      | some _ => s.provingBroken h
      | none => (s.provingBroken h).closeValve h side) ∧
    (∀ p g cause, s.servedBy h side = some p → (s.path p).state = .changeover .second g h cause → (s.valve h side).state = .opened →
      s.returnedOpen h side = s.setValve h side
        { s.valve h side with state := .closing .commanded, drive := .driveClose,
                              timer := some (s.holderSettings h).strokeLimit, lastChange := s.yard.clock }) ∧
    ((∀ p g cause, s.servedBy h side = some p → (s.path p).state ≠ .changeover .second g h cause) → s.returnedOpen h side = s)

/-- A stroke timer that runs out puts an OPENING or CLOSING valve into FAULT with cause STROKE, and one in UNKNOWN with cause TRAVEL, each
with its flag and its event (R28). A fault of the order's valve ends a STARTING, RUNNING or OVERRUN order VALVE at once, and the path loses
the holder; a fault of either valve ends a PROVING order INCOMPLETE; any other order stands, and a holder on the path that the valve serves
is taken off it (R49, R71, R77, R93). A moved shut of the order's valve ends a RUNNING or OVERRUN order VALVE in the same way, and a
valve on no path is closed (R49, R30). -/
def Obligations.StrokeTimerFaultsTheValve : Prop :=
  ∀ (s : State) (h : HolderId) (side : Side) (n : Nat),
    (s.yard.resetHeld = false → (s.valve h side).timer = some n →
      ∃ t : State, exec (.strokeTimerExpiry h side) s = .next t ∧
        ((s.valve h side).state = .unknown →
          (t.valve h side).state = .fault .travel ∧ (t.valve h side).drive = .rest ∧ (t.valve h side).timer = none ∧
          t.flags.get (.valve h side .fault) = true) ∧
        (∀ o, (s.valve h side).state = .opening o ∨ (s.valve h side).state = .closing o →
          (t.valve h side).state = .fault .stroke ∧ (t.valve h side).drive = .rest ∧ (t.valve h side).timer = none ∧
          t.flags.get (.valve h side .fault) = true) ∧
        (∀ o, (s.valve h side).state = .opening o ∨ (s.valve h side).state = .closing o →
          let v : ValveRec := { s.valve h side with state := .fault .stroke, drive := .rest, timer := none, lastChange := s.yard.clock }
          t = (((s.setValve h side v).raise (.valve h side .fault)).valveFaulted h side
            (match (s.valve h side).state with | .opening _ => true | _ => false)).choices) ∧
        t.outer = ({ s with yard := { s.yard with mode := t.yard.mode } } : State).outer ∧
        (∀ k, (t.holder k).observed = (s.holder k).observed)) ∧
    (let lost (unopened : Bool) (u : State) : State := match u.servedBy h side with
       | some p => u.valveLostOn p h unopened
       | none => u
     (∀ o p opening, s.active h = some o → o.path = some p → p.side = side → o.counting = true ∨ o.state = .starting →
       s.valveFaulted h side opening = lost (o.state == .starting) (s.endActive .valve h)) ∧
     (∀ o opening, s.active h = some o → o.state = .proving → o.kind = .prove →
       s.valveFaulted h side opening = lost opening (s.endActive .incomplete h)) ∧
     (∀ opening, (s.active h = none ∨ ∃ o, s.active h = some o ∧ o.state ≠ .proving ∧
         ((∀ p, o.path = some p → p.side ≠ side) ∨ (o.counting = false ∧ o.state ≠ .starting))) →
       s.valveFaulted h side opening = lost opening s) ∧
     (∀ o p, s.active h = some o → o.path = some p → p.side = side → o.counting = true →
       s.movedShut h side = match (s.endActive .valve h).servedBy h side with
         | some q => (s.endActive .valve h).valveLostOn q h false
         | none => (s.endActive .valve h).closeValve h side) ∧
     ((s.active h = none ∨ ∃ o, s.active h = some o ∧ ((∀ p, o.path = some p → p.side ≠ side) ∨ o.counting = false)) →
       s.movedShut h side = match s.servedBy h side with
         | some q => s.valveLostOn q h false
         | none => s.closeValve h side))

/-- Open and close commands by the valve's state (R24, R25). Beside an OPENING or OPEN sister no valve opens; from UNKNOWN and FAULT an open
command is unavailable, from FAULT a close command. A stroke begins, or restarts by a reversal or out of a MOVED stroke, with the timer at
the stroke limit; a commanded stroke in the direction asked for runs on, and a valve at the end asked for stands. A reversal, or a MOVED
stroke become COMMANDED, ends at once where the recorded contacts show the far end already (R27). -/
def Obligations.CommandsMoveValves : Prop :=
  ∀ (v : ValveRec) (limit : Nat) (now : Option ClockTime),
    (let opening (changed : Option ClockTime) : ValveRec :=
       { v with state := .opening .commanded, drive := .driveOpen, timer := some limit, lastChange := changed }
     let redirected (changed : Option ClockTime) : ValveRec × Command :=
       if v.openC = some .made ∧ v.shutC = some .broken then
         ({ v with state := .opened, drive := .rest, timer := none, lastChange := now }, .strokeEnded)
       else (opening changed, .carriedOut)
     v.openCommand limit now true = (v, .unavailable) ∧
     (v.state = .closed → v.openCommand limit now false = (opening now, .carriedOut)) ∧
     (v.state = .opening .commanded ∨ v.state = .opened → v.openCommand limit now false = (v, .carriedOut)) ∧
     (v.state = .opening .moved → v.openCommand limit now false = redirected v.lastChange) ∧
     (∀ o, v.state = .closing o → v.openCommand limit now false = redirected now) ∧
     (v.state = .unknown ∨ (∃ c, v.state = .fault c) → v.openCommand limit now false = (v, .unavailable))) ∧
    (let closing (changed : Option ClockTime) : ValveRec :=
       { v with state := .closing .commanded, drive := .driveClose, timer := some limit, lastChange := changed }
     let redirected (changed : Option ClockTime) : ValveRec × Command :=
       if v.shutC = some .made ∧ v.openC = some .broken then
         ({ v with state := .closed, drive := .rest, timer := none, lastChange := now }, .strokeEnded)
       else (closing changed, .carriedOut)
     (v.state = .opened ∨ v.state = .unknown → v.closeCommand limit now = (closing now, .carriedOut)) ∧
     (v.state = .closing .commanded ∨ v.state = .closed → v.closeCommand limit now = (v, .carriedOut)) ∧
     (v.state = .closing .moved → v.closeCommand limit now = redirected v.lastChange) ∧
     (∀ o, v.state = .opening o → v.closeCommand limit now = redirected now) ∧
     ((∃ c, v.state = .fault c) → v.closeCommand limit now = (v, .unavailable)) ∧
     ((∀ c, v.state ≠ .fault c) → v.state ≠ .closed → (v.closeCommand limit now).1.state = .closing .commanded ∨
       ((v.closeCommand limit now).1.state = .closed ∧ v.shutC = some .made ∧ v.openC = some .broken)))

/-- VALVE … CLEAR clears a FAULT with the valve recorded shut to CLOSED, with its closed confirmed; BOOST CLEAR clears a FAULT with the
contact recorded BROKEN to OFF and grants the head of the queue; each is refused RS otherwise (R34, R163). -/
def Obligations.FaultsAreCleared : Prop :=
  ∀ (s : State) (hw w : Text) (h : HolderId) (side : Side), s.Listening → parseHolder hw = some h → parseSide w = some side →
    (∀ c, (s.valve h side).state = .fault c → (s.valve h side).shutC = some .made → (s.valve h side).openC = some .broken →
      ∃ t : State, exec (.valveClear [hw, w]) s = .next (t.choices.sendReply valveVerb [hw, w, clearWord] .ok
          ["FAULT".toList, ValveFault.name c]) ∧
        t = ((s.receive .idle).setValve h side
          { s.valve h side with state := .closed, drive := .rest, timer := none, lastChange := s.yard.clock }).closedConfirmed h side) ∧
    ((∀ c, (s.valve h side).state ≠ .fault c) ∨ (s.valve h side).shutC ≠ some .made ∨ (s.valve h side).openC ≠ some .broken →
      exec (.valveClear [hw, w]) s = .next (s.refusedWith valveVerb [hw, w, clearWord] .rs)) ∧
    (∀ c, s.booster.state = .fault c → s.booster.contact = some .broken →
      exec .boostClear s = .next ((((s.receive .idle).setBooster { s.booster with state := .off }).grantHead).sendReply boostVerb
        [clearWord] .ok ["FAULT".toList, BoosterFault.name c])) ∧
    ((∀ c, s.booster.state ≠ .fault c) ∨ s.booster.contact ≠ some .broken →
      exec .boostClear s = .next (s.refusedWith boostVerb [clearWord] .rs)) ∧
    (∀ args, parseValve args = none → exec (.valveClear args) s = .next (s.refusedWith valveVerb (args ++ [clearWord]) .ra))

/-! ### Orders and proving (chapters 3 and 5) -/

/-- LOAD and PROVE are refused RA unless every argument lies in its range; a good one is refused RS for a holder OUT, a live tag, or two
filled slots; else the order takes the active slot READY, or the follow-on slot PENDING (R40, R41, R42). -/
def Obligations.OrdersAreOffered : Prop :=
  ∀ (s : State) (args : List Text) (h : HolderId) (o : Order) (prove : Bool), s.Listening →
    (if prove then parseProve args else parseLoad args) = some (h, o) →
    let i : Instr := if prove then .prove args else .load args
    let verb := if prove then proveVerb else loadVerb
    (((s.holderSettings h).service = .outOfService ∨ o.tag ∈ s.liveTags ∨ (s.active h ≠ none ∧ s.followOn h ≠ none)) →
      exec i s = .next (s.refusedWith verb args .rs)) ∧
    ((s.holderSettings h).service = .inService → o.tag ∉ s.liveTags → s.active h = none →
      exec i s = .next (((((s.receive .idle).setSlots h ⟨some o, s.followOn h⟩).provingLook h).choices).sendReply verb args .ok
        ["ACTIVE".toList])) ∧
    ((s.holderSettings h).service = .inService → o.tag ∉ s.liveTags → s.active h ≠ none → s.followOn h = none →
      exec i s = .next ((((s.receive .idle).setSlots h ⟨s.active h, some { o with state := .pending }⟩).choices).sendReply verb args .ok
        ["FOLLOW-ON".toList])) ∧
    (∀ ws, parseLoad ws = none → exec (.load ws) s = .next (s.refusedWith loadVerb ws .ra)) ∧
    (∀ ws, parseProve ws = none → exec (.prove ws) s = .next (s.refusedWith proveVerb ws .ra)) ∧
    (∀ (hw tw kw pw qw aw yw : Text) (k : HolderId) (tag q y : Nat) (kind : OrderKind) (p : PathId) (a : AtCount),
      parseHolder hw = some k → parseNum tw = some tag → parseKind kw = some kind → parsePath pw = some p → parseNum qw = some q →
      parseAtCount aw = some a → parseNum yw = some y →
      parseLoad [hw, tw, kw, pw, qw, aw, yw] =
        if 1 ≤ tag ∧ tag ≤ 65535 ∧ (kind = .fill ↔ p = .make) ∧ 1000 ≤ q ∧ q ≤ 16000000 ∧ (y = 0 ∨ 1000 ≤ y ∧ y ≤ 1000000) then
          some (k, Order.newTransfer tag p q a (if y = 0 then none else some y))
        else none) ∧
    (∀ ws, (∀ hw tw kw pw qw aw yw : Text, ws = [hw, tw, kw, pw, qw, aw, yw] →
        parseHolder hw = none ∨ parseNum tw = none ∨ parseKind kw = none ∨ parsePath pw = none ∨ parseNum qw = none ∨
        parseAtCount aw = none ∨ parseNum yw = none) → parseLoad ws = none) ∧
    (∀ ws, (∀ hw tw lw mw : Text, ws = [hw, tw, lw, mw] →
        parseHolder hw = none ∨ parseNum tw = none ∨ parseNum lw = none ∨ parseNum mw = none) → parseProve ws = none) ∧
    (∀ (hw tw lw mw : Text) (k : HolderId) (tag l m : Nat),
      parseHolder hw = some k → parseNum tw = some tag → parseNum lw = some l → parseNum mw = some m →
      parseProve [hw, tw, lw, mw] =
        if 1 ≤ tag ∧ tag ≤ 65535 ∧ l ≤ 100000 ∧ 30 ≤ m ∧ m ≤ 720 then some (k, Order.newProving tag l m) else none)

/-- END by the active order's state: READY and PROVING end ENDED at once, STARTING with its path, RUNNING and OVERRUN are put to the path
arbiters with end due ENDED: continued by a follow-on on the same path, else handed over or ended at once, and an outgoing order with an
end due is refused RS, one without takes it, and its path takes the cause where none stands (R50, R51, R52, R72, R76); DROP empties the
follow-on slot without a record; FIN removes and returns the oldest finished record; an empty slot refuses RS, an empty list answers NONE
(R53, R54, R58). -/
def Obligations.EndDropAndFin : Prop :=
  ∀ (s : State) (hw : Text) (h : HolderId), s.Listening → parseHolder hw = some h →
    (s.active h = none → exec (.endOrder [hw]) s = .next (s.refusedWith endVerb [hw] .rs)) ∧
    (∀ o, s.active h = some o → o.state = .ready ∨ o.state = .proving →
      exec (.endOrder [hw]) s = .next ((((s.receive .idle).endActive .ended h).choices).sendReply endVerb [hw] .ok
        [decimal o.tag, o.state.name])) ∧
    (∀ o, s.active h = some o → o.state = .starting →
      exec (.endOrder [hw]) s = .next ((((s.receive .idle).endStarting .ended h).choices).sendReply endVerb [hw] .ok
        [decimal o.tag, o.state.name])) ∧
    (∀ o, s.active h = some o → o.counting = true → o.outgoing = true → o.endDue ≠ none →
      exec (.endOrder [hw]) s = .next (s.refusedWith endVerb [hw] .rs)) ∧
    (∀ o, s.active h = some o → o.counting = true → o.outgoing = false ∨ o.endDue = none →
      exec (.endOrder [hw]) s = .next ((((s.receive .idle).putEnded h).choices).sendReply endVerb [hw] .ok
        [decimal o.tag, o.state.name])) ∧
    (s.followOn h = none → exec (.drop [hw]) s = .next (s.refusedWith dropVerb [hw] .rs)) ∧
    (∀ o, s.followOn h = some o →
      exec (.drop [hw]) s = .next ((((s.receive .idle).setSlots h ⟨s.active h, none⟩).choices).sendReply dropVerb [hw] .ok
        [decimal o.tag, o.kind.name])) ∧
    (s.finished = [] → exec (.fin []) s = .next ((s.receive .idle).sendReply finVerb [] .ok [noneItem])) ∧
    (∀ f rest, s.finished = f :: rest →
      exec (.fin []) s = .next (({ s.receive .idle with finished := rest }).sendReply finVerb [] .ok f.data)) ∧
    (s.shows .finished = true ↔ s.finished ≠ []) ∧
    (∀ args, parseOneHolder args = none →
      exec (.endOrder args) s = .next (s.refusedWith endVerb args .ra) ∧ exec (.drop args) s = .next (s.refusedWith dropVerb args .ra)) ∧
    (∀ args, args ≠ [] → exec (.fin args) s = .next (s.refusedWith finVerb args .ra)) ∧
    (let written (o : Order) (u : Transfer) (due : EndDue) : State :=
       s.setActive h (some { o with body := .transfer { u with endDue := some due } })
     (∀ cause, s.endActive cause h = (s.closeOrder cause none none h).provingLook h) ∧
     (∀ o p cause, s.active h = some o → o.path = some p →
       s.endStarting cause h = (s.endActive cause h).valveLostOn p h true) ∧
     (∀ o u, s.active h = some o → o.body = .transfer u → o.counting = true → u.outgoing = false → s.followsOn h u.path = false →
       s.putEnded h = s.forceEnd .ended h) ∧
     (∀ o u, s.active h = some o → o.body = .transfer u → o.counting = true → u.outgoing = true →
       s.putEnded h = s.forceEnd .ended h) ∧
     (∀ o u f, s.active h = some o → o.body = .transfer u → o.counting = true → u.outgoing = false → s.followOn h = some f →
       f.path = some u.path →
       ∃ t : State, s.putEnded h = t.stopCheck h ∧ t.outer = s.outer ∧ t.flags.get (.order h .promoted) = true ∧
         t.works = (((((s.appendFinished (o.finish h .continued s.yard.clock none none)).setSlots h
           ⟨some { f with state := .running, start := s.yard.clock }, none⟩).setPath u.path
             { s.path u.path with lastServed := some h })).setHolder h { s.holder h with trailing := 0 }).works) ∧
     (∀ o u due, s.active h = some o → o.body = .transfer u → o.counting = true → u.outgoing = false →
       s.forceEnd due h = (written o u due).handOverOrEnd due u.path h) ∧
     (∀ o u due, s.active h = some o → o.body = .transfer u → o.counting = true → u.outgoing = true → u.endDue = none →
       s.forceEnd due h = match (s.path u.path).state with
         | .changeover .first g out none =>
           if out = h then (written o u due).setPathState u.path (.changeover .first g h (some due)) else written o u due
         | _ => written o u due) ∧
     (∀ o u d due, s.active h = some o → o.body = .transfer u → u.outgoing = true → u.endDue = some d → s.forceEnd due h = s) ∧
     (∀ due, (s.active h = none ∨ ∃ o, s.active h = some o ∧ (o.counting = false ∨ o.kind = .prove)) → s.forceEnd due h = s))

/-- The end of an order: its record joins the finished list, which holds 16 at most and drops the oldest with OVERFLOW, and the follow-on
is promoted READY with PROMOTED; FINISHED stands exactly while the list holds a record, whatever CLR clears (R55, R56, R57, R59). -/
def Obligations.EndedOrderLeavesARecord : Prop :=
  ∀ (s : State) (h : HolderId) (o : Order) (cause : Cause) (k : Option Nat) (loss : Option Int), s.active h = some o →
    let t := s.closeOrder cause k loss h
    (s.finished.length < 16 → t.finished = s.finished ++ [o.finish h cause s.yard.clock k loss]) ∧
    (16 ≤ s.finished.length → t.finished = s.finished.tail ++ [o.finish h cause s.yard.clock k loss] ∧
      t.flags.get .overflow = true) ∧
    t.followOn h = none ∧ t.active h = (s.followOn h).map (fun f => { f with state := .ready }) ∧
    (s.followOn h ≠ none → t.flags.get (.order h .promoted) = true) ∧ t.shows .finished = true ∧
    t.finished.length ≤ max 16 s.finished.length ∧
    (∀ (u : State) (n : Fin 8), (u.shows .finished = true ↔ u.finished ≠ []) ∧
      ({ u with flags := u.flags.clearGroup n } : State).shows .finished = u.shows .finished) ∧
    (∀ g, g ≠ h → t.active g = s.active g ∧ t.followOn g = s.followOn g) ∧
    t.outer = s.outer ∧ t.holders = s.holders ∧ t.valves = s.valves ∧ t.paths = s.paths ∧ t.districts = s.districts ∧
    t.booster = s.booster

/-- A nonzero delta counted to a transfer order is movement in its direction and backflow against it; moved is the quantity less to-go plus
overrun, overrun only with to-go 0, and the tally count the floored quotient; nothing else of the order changes. A tally count that rises
sets TALLY, and a RUNNING order whose to-go comes to 0 becomes OVERRUN (R46, R47, R48). -/
def Obligations.CountingKeepsItsRelations : Prop :=
  ∀ (s : State) (h : HolderId) (o : Order) (t : Transfer) (delta : Int), s.active h = some o → o.body = .transfer t →
    o.state = .running ∨ o.state = .overrun → t.ok = true → delta ≠ 0 →
    ∃ (u : Transfer) (st : OrderState),
      s.countDelta h delta =
        { s.setActive h (some { o with state := st, body := .transfer u }) with
          flags := if t.tallyCount < u.tallyCount then s.flags.on (.order h .tally) else s.flags } ∧ u.ok = true ∧
      u.path = t.path ∧ u.quantity = t.quantity ∧ u.atCount = t.atCount ∧ u.tallyStep = t.tallyStep ∧ u.endDue = t.endDue ∧
      u.outgoing = t.outgoing ∧
      u.moved = (if (0 < delta) = (t.path = .make) then t.moved + delta.natAbs else t.moved) ∧
      u.backflow = (if (0 < delta) = (t.path = .make) then t.backflow else t.backflow + delta.natAbs) ∧
      u.moved + u.toGo = u.quantity + u.overrun ∧ (u.overrun = 0 ∨ u.toGo = 0) ∧
      u.tallyCount = (match u.tallyStep with | some k => u.moved / k | none => 0) ∧
      st = (if o.state = .running ∧ (0 < delta) = (t.path = .make) ∧ u.toGo = 0 then .overrun else o.state)

/-- The proving timer of a PROVING order runs out: with a stock, PASS where the loss is within the tolerance and LEAK otherwise, in the
record; without one, INCOMPLETE (R96). A look at a READY PROVE order of a holder with both valves CLOSED, on no path and not LOST takes the
stock: with one the order becomes PROVING from it, at the clock time, for its period in seconds, and the stock is kept; without one it ends
INCOMPLETE, and a promoted order is looked at; every other look changes nothing (R90, R91, R55). -/
def Obligations.ProvingHasItsOutcome : Prop :=
  ∀ (s : State) (h : HolderId) (o : Order) (p : Proving),
    (s.yard.resetHeld = false → s.active h = some o → o.state = .proving → o.body = .proving p →
      ∃ t : State, exec (.provingTimerExpiry h) s = .next t.choices ∧
        (∀ k, s.stock h = some k →
          t = ((s.keepStock h k).closeOrder (if (p.startStock.getD 0 : Int) - k ≤ p.tolerance then .pass else .leak) (some k)
            (some ((p.startStock.getD 0 : Int) - k)) h).provingLook h) ∧
        (s.stock h = none → t = (s.closeOrder .incomplete none none h).provingLook h)) ∧
    (s.isolated h = true ↔ (∀ side, (s.valve h side).state = .closed) ∧ (∀ q, h ∉ (s.path q).state.holders) ∧
      (s.holder h).lost = false) ∧
    (s.active h = some o → o.state = .ready → o.body = .proving p → s.isolated h = true →
      (∀ k, s.stock h = some k → s.provingLook h =
        (s.setHolder h { s.holder h with lastStock := some ⟨k, s.yard.clock⟩ }).setActive h (some { o with
          state := .proving, start := s.yard.clock,
          body := .proving { p with startStock := some k, timer := some (p.period * 60) } })) ∧
      (s.stock h = none → s.provingLook h = (s.closeOrder .incomplete none none h).provingLook h ∧
        o.finish h .incomplete s.yard.clock none none ∈ (s.provingLook h).finished)) ∧
    ((s.active h = none ∨ (∃ q, s.active h = some q ∧ (q.state ≠ .ready ∨ q.kind ≠ .prove)) ∨ s.isolated h = false) →
      s.provingLook h = s)

/-! ### Paths (chapter 4) -/

/-- The choice takes only an eligible holder, none where none is eligible; on a FIXED path the lowest-numbered, on a ROTATING one the first
after the last served, wrapping from H6 to H1 (R67, R69). The choices of an event are made on MAKE and D1 to D4, and once more on each (log
entry 11), and no path is left EMPTY by its choice with a holder eligible for it (R68). What it makes of path, orders and valves: a start
on an EMPTY path (R70), a take-over of an ADOPTED grant by its own holder's READY order (R80), else a give-way changeover (R73), for a
yielding order the continuation first (R79), and nothing elsewhere (R68); an order that so runs at its stop is triggered at once (R44,
R45). An end put by the granted order is handed over, or ends at once with the path unserved (R72). A granted, incoming or outgoing holder
whose valve or start is lost leaves the path (R71, R75, R76, R77), but for the outgoing holder of stage SECOND, which stays in place (R78).
Clauses that are the model's: the turns of the choices (log entry 11); a take-over whatever the state of the holder's valve (log entry 24); at
an abandoned changeover, the grant kind by whether the holder has an order marked outgoing (log entry 29); and, at a failed successor, its
look at a PROVE order before the next choice (log entry 33). -/
def Obligations.ChoiceTakesAnEligibleHolder : Prop :=
  ∀ (s : State) (p : PathId),
    (∀ h, s.choose p = some h → s.eligible p h = true ∧ s.yard.mode = .run ∧ (s.valve h p.side).state = .closed ∧
      s.onPath h = false ∧ (s.holder h).lost = false) ∧
    (s.choose p = none ↔ ∀ h, s.eligible p h = false) ∧
    (∀ h, s.eligible p h = true ↔
      (∃ o, s.active h = some o ∧ o.state = .ready ∧ o.path = some p) ∧ s.yard.mode = .run ∧
      (s.holderSettings h).service = .inService ∧ (s.holder h).lost = false ∧
      (match p with | .make => (s.holder h).atTop | .dist _ => (s.holder h).atLow) = false ∧
      (s.valve h p.side).state = .closed ∧ (s.valve h p.side.sister).state ≠ .opened ∧
      (∀ o, (s.valve h p.side.sister).state ≠ .opening o) ∧ (∀ q, h ∉ (s.path q).state.holders)) ∧
    s.choices = ([.make, .dist .d1, .dist .d2, .dist .d3, .dist .d4, .make, .dist .d1, .dist .d2, .dist .d3, .dist .d4] :
      List PathId).foldl (fun u q => u.choiceOn q) s ∧
    (s.PathsOk → ((s.choiceOn p).path p).state = .empty → ∀ h, (s.choiceOn p).eligible p h = false) ∧
    (s.settings.priority.get p = .fixed → s.choose p = HolderId.all.find? fun h => s.eligible p h) ∧
    (s.settings.priority.get p = .rotating → s.choose p = (match (s.path p).lastServed with
      | none => HolderId.all
      | some k => (HolderId.all.dropWhile (· ≠ k)).tail ++ HolderId.all.takeWhile (· ≠ k) ++ [k]).find? fun h => s.eligible p h) ∧
    -- what a choice, or a hand-over, makes of the successor n: its order STARTING and its valve commanded open
    (let started (n : HolderId) (o : Order) (u : State) : State := (u.setActive n (some { o with state := .starting })).setValve n p.side
       { u.valve n p.side with state := .opening .commanded, drive := .driveOpen,
                               timer := some (u.holderSettings n).strokeLimit, lastChange := u.yard.clock }
     let ran (h : HolderId) (u : State) : State := u.setHolder h { s.holder h with trailing := 0 }
     let marked (y : Order) (u : Transfer) : Order := { y with body := .transfer { u with outgoing := true } }
     (s.choiceOn p).outer = s.outer ∧
     (∀ n o, (s.path p).state = .empty → s.choose p = some n → s.active n = some o →
       (s.choiceOn p).works = (started n o (s.setPathState p (.granted ⟨n, .ordered⟩))).works) ∧
     (∀ h o, (s.path p).state = .granted ⟨h, .adopted⟩ → s.yard.mode = .run → s.active h = some o → o.state = .ready →
       o.path = some p →
       ∃ u : State, s.choiceOn p = u.stopCheck h ∧ u.outer = s.outer ∧
         u.works = (ran h ((s.setPath p ⟨.granted ⟨h, .ordered⟩, some h, false⟩).setActive h
           (some { o with state := .running, start := s.yard.clock }))).works) ∧
     (∀ h n o, (s.path p).state = .granted ⟨h, .adopted⟩ → s.readyOn h p = false → s.choose p = some n → s.active n = some o →
       (∀ y, s.active h = some y → y.counting = false) →
       (s.choiceOn p).works = (started n o (s.setPathState p (.changeover .first (some ⟨n, .ordered⟩) h none))).works) ∧
     (∀ h y f, (s.path p).state = .granted ⟨h, .ordered⟩ → s.active h = some y → y.yielding = true → s.followOn h = some f →
       f.path = some p →
       ∃ u : State, s.choiceOn p = u.stopCheck h ∧ u.outer = s.outer ∧ u.flags.get (.order h .promoted) = true ∧
         u.works = (ran h (((s.appendFinished (y.finish h .continued s.yard.clock none none)).setSlots h
           ⟨some { f with state := .running, start := s.yard.clock }, none⟩).setPath p { s.path p with lastServed := some h })).works) ∧
     (∀ h n o y u, (s.path p).state = .granted ⟨h, .ordered⟩ → s.active h = some y → y.yielding = true → y.body = .transfer u →
       s.followsOn h p = false → s.choose p = some n → s.active n = some o →
       (s.choiceOn p).works = (started n o ((s.setActive h (some (marked y u))).setPathState p
         (.changeover .first (some ⟨n, .ordered⟩) h none))).works) ∧
     ((∃ st g out cause, (s.path p).state = .changeover st g out cause) ∨
       (∃ h, (s.path p).state = .granted ⟨h, .ordered⟩ ∧ ∀ y, s.active h = some y → y.yielding = false) ∨
       ((s.path p).state = .empty ∧ s.choose p = none) ∨
       (∃ h, (s.path p).state = .granted ⟨h, .adopted⟩ ∧ s.readyOn h p = false ∧ s.choose p = none) ∨
       (∃ h, (s.path p).state = .granted ⟨h, .ordered⟩ ∧ s.followsOn h p = false ∧ s.choose p = none) → s.choiceOn p = s) ∧
     (∀ h o, s.active h = some o → o.path = some p →
       s.stopCheck h = if (match p with | .make => (s.holder h).atTop | .dist _ => (s.holder h).atLow) then
         s.forceEnd (match p with | .make => .topped | .dist _ => .lowed) h else s) ∧
     (∀ h k due, s.PathsOk → (s.path p).state = .granted ⟨h, k⟩ →
       (∀ n o y u, s.choose p = some n → s.active n = some o → s.active h = some y → y.body = .transfer u → y.counting = true →
         (s.handOverOrEnd due p h).works = (started n o ((s.setActive h (some (marked y u))).setPathState p
           (.changeover .first (some ⟨n, .ordered⟩) h (some due)))).works) ∧
       (∀ y, s.choose p = none → s.active h = some y →
         let t := s.handOverOrEnd due p h
         t.path p = { s.path p with state := .empty, unserved := true } ∧ t.flags.get (.path p .unserved) = true ∧
         y.finish h due.cause s.yard.clock none none ∈ t.finished ∧ t.followOn h = none ∧
         t.valve h p.side = ((s.valve h p.side).closeCommand (s.holderSettings h).strokeLimit s.yard.clock).1)) ∧
     (∀ h k out cause due y, s.PathsOk → (s.path p).state = .changeover .second (some ⟨h, k⟩) out cause → s.active h = some y →
       let t := s.handOverOrEnd due p h
       t.path p = { s.path p with state := .changeover .second none out cause, unserved := true } ∧
       t.flags.get (.path p .unserved) = true ∧ y.finish h due.cause s.yard.clock none none ∈ t.finished ∧ t.followOn h = none ∧
       t.valve h p.side = ((s.valve h p.side).closeCommand (s.holderSettings h).strokeLimit s.yard.clock).1) ∧
     (∀ h unopened, s.PathsOk →
       let t := s.valveLostOn p h unopened
       let closed := ((s.valve h p.side).closeCommand (s.holderSettings h).strokeLimit s.yard.clock).1
       (∀ k, (s.path p).state = .granted ⟨h, k⟩ →
         t.path p = { s.path p with state := .empty, unserved := (s.path p).unserved || !unopened } ∧ t.valve h p.side = closed ∧
         (unopened = false → t.flags.get (.path p .unserved) = true)) ∧
       (∀ k out cause, (s.path p).state = .changeover .second (some ⟨h, k⟩) out cause →
         t.path p = { s.path p with state := .changeover .second none out cause, unserved := true } ∧ t.valve h p.side = closed ∧
         t.flags.get (.path p .unserved) = true) ∧
       (∀ g cause, (s.path p).state = .changeover .first (some g) h cause →
         t.path p = { s.path p with state := .granted g, unserved := true } ∧ t.valve h p.side = closed ∧
         t.flags.get (.path p .unserved) = true) ∧
       (∀ g cause, (s.path p).state = .changeover .second g h cause → t.works = s.works ∧ t.outer = s.outer) ∧
       (∀ k out cause, (s.path p).state = .changeover .first (some ⟨h, k⟩) out cause →
         let u := ((s.setPathState p (.changeover .first none out cause)).closeValve h p.side).provingLook h
         u.valve h p.side = closed ∧
         (∀ n o, u.choose p = some n → u.active n = some o →
           t.works = (started n o (u.setPathState p (.changeover .first (some ⟨n, .ordered⟩) out cause))).works) ∧
         (u.choose p = none → t.valve h p.side = closed ∧
           (cause = none → t.path p =
             { s.path p with state := .granted ⟨out, if s.hasOutgoing out then .ordered else .adopted⟩ } ∧
             (∀ y u, s.active out = some y → y.body = .transfer u →
               t.active out = some { y with body := .transfer { u with outgoing := false } })) ∧
           (∀ c, cause = some c → t.path p = { s.path p with state := .empty, unserved := true } ∧
             t.flags.get (.path p .unserved) = true ∧
             t.valve out p.side = ((s.valve out p.side).closeCommand (s.holderSettings out).strokeLimit s.yard.clock).1 ∧
             (∀ y, s.active out = some y → y.outgoing = true →
               y.finish out ((y.endDue.getD c).cause) s.yard.clock none none ∈ t.finished))))))

/-! ### Street pressure (chapter 8) -/

/-- A period end: the pair, reading and condition of the gauges, the unordered run, the loading stepped and limited or held, the timer
restarted, and every other district's loading as it was (R142, R143, R144, R145, R149). A boosted district counts its release run, and at 5
releases the booster, which passes to the queue's head or runs down (R152, R161). A LOW district at its supply limit below its maximum requests
an enabled booster in RUN and joins the queue's tail, is granted at once from OFF, or takes its withdrawal back in RUN-UP; any other makes
no request (R150, R158, R159, R160). -/
def Obligations.PeriodEndGovernsTheLoading : Prop :=
  ∀ (s : State) (d : DistrictId), s.yard.resetHeld = false → s.LoadingOk →
    let g := (s.districtSettings d).governing
    let o := evaluatePair g.tolerance (validGauge g.period (s.district d).duty) (validGauge g.period (s.district d).check)
    let c := conditionOf o.2 (s.setpoint d) g.band
    let loading := match s.supplyLimit d with
      | none => (s.district d).loading
      | some l => min l (max g.minimum (min (match c with
        | .low => (s.district d).loading + g.step
        | .high => (s.district d).loading - g.step
        | _ => (s.district d).loading) g.maximum))
    let run := if loading + 10 ≤ (s.unboosted d).getD 0 then (s.district d).releaseRun + 1 else 0
    ∃ t : State, exec (.periodEnd d) s = .next t ∧ (t.district d).pair = some o.1 ∧ (t.district d).reading = o.2 ∧
      (t.district d).condition = some c ∧
      (t.district d).unorderedRun = (if c = .unordered then min ((s.district d).unorderedRun + 1) 65535 else 0) ∧
      (t.district d).loading = loading ∧
      (t.district d).periodTimer = g.period ∧ (10 ≤ (t.district d).unorderedRun → t.flags.get (.district d .unordered) = true) ∧
      (o.1 = .singleDuty ∨ o.1 = .singleCheck → t.flags.get (.district d .single) = true) ∧
      (∀ e, e ≠ d → (t.district e).loading = (s.district e).loading) ∧ t.outer = s.outer ∧ t.works = s.works ∧
      (s.BoosterOk →
        ((s.district d).boosted = true → run < 5 →
          (t.district d).releaseRun = run ∧ (t.district d).boosted = true ∧ (t.district d).request = .granted ∧ t.booster = s.booster) ∧
        ((s.district d).boosted = true → 5 ≤ run →
          (t.district d).releaseRun = 0 ∧ (t.district d).boosted = false ∧ (t.district d).request = .none ∧
          (s.booster.queue = [] → t.booster = { s.booster with
            state := .runDown, granted := none, boosted := none, timer := some 60, start := false, selector := none }) ∧
          (∀ e rest, s.booster.queue = e :: rest → (t.district e).request = .granted ∧ t.booster = { s.booster with
            state := .aligning, granted := some e, boosted := none, queue := rest,
            timer := some s.settings.booster.alignment, selector := some e })) ∧
        ((s.district d).boosted = false →
          ((c = .low ∧ s.supplyLimit d = some loading ∧ (∃ a, s.available d = some a ∧ a < g.maximum) ∧
              s.settings.booster.enabled = true ∧ s.yard.mode = .run ∧ (s.district d).request = .none) →
            (s.booster.state = .off → (t.district d).request = .granted ∧
              (s.booster.contact ≠ some .made → (t.district d).boosted = false ∧ t.booster = { s.booster with
                state := .runUp, granted := some d, timer := some s.settings.booster.runUp, start := true, selector := some d }) ∧
              (s.booster.contact = some .made → (t.district d).boosted = true ∧ t.flags.get .boosterGrant = true ∧
                t.booster = { s.booster with
                  state := .running, granted := some d, boosted := some d, timer := none, start := true, selector := some d })) ∧
            (s.booster.granted = some d → (t.district d).request = .granted ∧
              t.booster = { s.booster with withdrawalPending := false }) ∧
            (s.booster.state ≠ .off → s.booster.granted ≠ some d → (t.district d).request = .queued ∧
              t.booster = { s.booster with queue := s.booster.queue ++ [d] })) ∧
          (¬(c = .low ∧ s.supplyLimit d = some loading ∧ (∃ a, s.available d = some a ∧ a < g.maximum) ∧
              s.settings.booster.enabled = true ∧ s.yard.mode = .run ∧ (s.district d).request = .none) →
            (t.district d).request = (s.district d).request ∧ (t.district d).boosted = false ∧ t.booster = s.booster)))

/-! ### The booster (chapter 9) -/

/-- The running contact: recorded always; made in RUN-UP it boosts the granted district, broken in RUNNING or ALIGNING it faults the
booster, and elsewhere it changes no state (R157, R159, R160, R161, R162, R163). -/
def Obligations.RunningContactIsTaken : Prop :=
  ∀ (s : State) (c : Contact), s.yard.resetHeld = false → s.booster.ok = true →
    ∃ t : State, exec (.boosterContactReport c) s = .next t ∧ t.booster.contact = some c ∧ t.outer = s.outer ∧ t.works = s.works ∧
      (c = .made → s.booster.state = .runUp → s.booster.withdrawalPending = false →
        t.booster = { s.booster with state := .running, boosted := s.booster.granted, timer := none, contact := some c } ∧
        t.flags.get .boosterGrant = true) ∧
      (c = .made → s.booster.state = .runUp → s.booster.withdrawalPending = true →
        t.booster = (match s.booster.queue with
          | [] => { s.booster with state := .runDown, granted := none, boosted := none, withdrawalPending := false,
                                   timer := some 60, start := false, selector := none, contact := some c }
          | d :: rest => { s.booster with state := .aligning, granted := some d, boosted := none, withdrawalPending := false,
                                          queue := rest, timer := some s.settings.booster.alignment, start := true,
                                          selector := some d, contact := some c })) ∧
      (c = .broken → s.booster.state = .running ∨ s.booster.state = .aligning →
        t.booster = { s.booster with state := .fault .contact, granted := none, boosted := none, timer := none, start := false,
                                     selector := none, contact := some c } ∧
        t.flags.get .boosterFault = true) ∧
      (s.booster.state = .off ∨ s.booster.state = .runDown ∨ (∃ f, s.booster.state = .fault f) ∨
        (c = .broken ∧ s.booster.state = .runUp) ∨
        (c = .made ∧ (s.booster.state = .running ∨ s.booster.state = .aligning)) →
        t = s.setBooster { s.booster with contact := some c })

/-- The booster's timers: run-up expiry faults it with its queue kept, alignment expiry boosts the granted district, and run-down expiry
brings OFF or grants the head of the queue at that event; with the running contact recorded MADE the run-up ends there too, and the head is
boosted (R159, R160, R162). -/
def Obligations.BoosterTimersRunOut : Prop :=
  ∀ (s : State), s.yard.resetHeld = false → s.booster.ok = true →
    (s.booster.state = .runUp →
      ∃ t : State, exec .runUpExpiry s = .next t ∧ t.flags.get .boosterFault = true ∧ t.outer = s.outer ∧ t.works = s.works ∧
        t.booster = { s.booster with state := .fault .runUp, granted := none, withdrawalPending := false, timer := none,
                                     start := false, selector := none }) ∧
    (s.booster.state = .aligning →
      ∃ t : State, exec .alignmentExpiry s = .next t ∧ t.flags.get .boosterGrant = true ∧ t.outer = s.outer ∧ t.works = s.works ∧
        t.booster = { s.booster with state := .running, boosted := s.booster.granted, timer := none }) ∧
    (s.booster.state = .runDown → s.booster.queue = [] →
      exec .runDownExpiry s = .next (s.setBooster { s.booster with state := .off, timer := none })) ∧
    (∀ d rest, s.booster.state = .runDown → s.booster.queue = d :: rest → s.booster.contact ≠ some .made →
      ∃ t : State, exec .runDownExpiry s = .next t ∧ t.outer = s.outer ∧ t.works = s.works ∧
        t.booster = { s.booster with state := .runUp, granted := some d, queue := rest,
                                     timer := some s.settings.booster.runUp, start := true, selector := some d } ∧
        (s.BoosterOk → (t.district d).request = .granted ∧ (t.district d).boosted = false)) ∧
    (∀ d rest, s.booster.state = .runDown → s.booster.queue = d :: rest → s.booster.contact = some .made →
      ∃ t : State, exec .runDownExpiry s = .next t ∧ t.outer = s.outer ∧ t.works = s.works ∧ t.flags.get .boosterGrant = true ∧
        t.booster = { s.booster with state := .running, granted := some d, boosted := some d, queue := rest, timer := none,
                                     start := true, selector := some d } ∧
        (s.BoosterOk → (t.district d).request = .granted ∧ (t.district d).boosted = true))

/-! ### Accounts (chapters 6 and 7) -/

/-- The arithmetic of a credit: the barometric conversion, which never meets an exact half, and the factor, both within their ranges; the
credit and the therm conversion lose nothing: 10,000 × S + R' is line volume × factor + R, and 100,000 × therms + Q' is S × CV + Q, with
both residues below their divisors and every result within its range; the factor never falls as barometer and gauge rise and the temperature
falls (R103, R106, R107, R109). -/
def Obligations.CreditsLoseNothing : Prop :=
  ∀ (n p f r cv q b g t k : Nat),
    barometric b = (b * 136 + 50) / 100 ∧ b * 136 % 100 ≠ 50 ∧
    factor b g t = (2 * (((b * 136 + 50) / 100 + g) * 520 * 10000) + 4080 * (t + 460)) / (2 * (4080 * (t + 460))) ∧
    (2700 ≤ b → b ≤ 3150 → g ≤ 300 → t ≤ 120 →
      3672 ≤ barometric b ∧ barometric b ≤ 4284 ∧ 8069 ≤ factor b g t ∧ factor b g t ≤ 12701) ∧
    barometric 2700 = 3672 ∧ barometric 3150 = 4284 ∧ barometric 3000 = 4080 ∧
    factor 3000 0 60 = 10000 ∧ factor 2700 0 120 = 8069 ∧ factor 3150 300 0 = 12701 ∧
    (∀ b' g' t', b ≤ b' → g ≤ g' → t' ≤ t → factor b g t ≤ factor b' g' t') ∧
    10000 * standardCredit n p f r + creditResidue n p f r = n * p * f + r ∧ creditResidue n p f r ≤ 9999 ∧
    (n ≤ 65535 → p ≤ 100 → f ≤ 12701 → r ≤ 9999 → standardCredit n p f r ≤ 8323601) ∧
    (r ≤ 9999 → standardCredit 0 p f r = 0 ∧ creditResidue 0 p f r = r) ∧
    100000 * creditTherms k cv q + creditBtu k cv q = k * cv + q ∧ creditBtu k cv q ≤ 99999 ∧
    (k ≤ 8323601 → cv ≤ 700 → q ≤ 99999 → creditEnergy k cv q ≤ 5826620699 ∧ creditTherms k cv q ≤ 58266) ∧
    (q ≤ 99999 → creditTherms 0 cv q = 0 ∧ creditBtu 0 cv q = q)

/-- Pulses count up to 65,535 and mark what they lose; valid line gauge, line temperature and barometer readings join their sums and
counts, a count at 65,535 takes no more, the barometer's value being written all the same, and other reports change nothing (R116, R117,
R118). The mark of a gathering is the model's (log entry 21). -/
def Obligations.GatheringAddsUp : Prop :=
  ∀ (s : State) (m : MeterId) (n : Byte) (x : Option Int), s.yard.resetHeld = false →
    ((s.meter m).pulses + n.toNat ≤ 65535 →
      exec (.pulseReport m n) s = .next ((s.setMeter m { s.meter m with pulses := (s.meter m).pulses + n.toNat }).markGathered)) ∧
    (65535 < (s.meter m).pulses + n.toNat →
      exec (.pulseReport m n) s =
        .next (((s.setMeter m { s.meter m with pulses := 65535, saturated := true }).markGathered).raise (.meter m .saturated))) ∧
    (∀ v : Nat, x = some (v : Int) → v ≤ 300 → (s.meter m).gaugeCount < 65535 →
      exec (.lineGaugeReport m x) s = .next ((s.setMeter m { s.meter m with
        gaugeSum := (s.meter m).gaugeSum + v, gaugeCount := (s.meter m).gaugeCount + 1 }).markGathered)) ∧
    (∀ v : Nat, x = some (v : Int) → v ≤ 120 → (s.meter m).tempCount < 65535 →
      exec (.lineTemperatureReport m x) s = .next ((s.setMeter m { s.meter m with
        tempSum := (s.meter m).tempSum + v, tempCount := (s.meter m).tempCount + 1 }).markGathered)) ∧
    (∀ v : Nat, x = some (v : Int) → 2700 ≤ v → v ≤ 3150 → s.accounts.barometer.count < 65535 →
      exec (.barometerReport x) s = .next (({ s with accounts := { s.accounts with barometer :=
        { value := some (v, .reading), sum := s.accounts.barometer.sum + v,
          count := s.accounts.barometer.count + 1 } } }).markGathered)) ∧
    (∀ v : Nat, x = some (v : Int) → v ≤ 300 → 65535 ≤ (s.meter m).gaugeCount → exec (.lineGaugeReport m x) s = .next s.markGathered) ∧
    (∀ v : Nat, x = some (v : Int) → v ≤ 120 → 65535 ≤ (s.meter m).tempCount →
      exec (.lineTemperatureReport m x) s = .next s.markGathered) ∧
    (∀ v : Nat, x = some (v : Int) → 2700 ≤ v → v ≤ 3150 → 65535 ≤ s.accounts.barometer.count →
      exec (.barometerReport x) s = .next (({ s with accounts := { s.accounts with barometer :=
        { s.accounts.barometer with value := some (v, .reading) } } }).markGathered)) ∧
    ((∀ v : Nat, x = some (v : Int) → 300 < v) → exec (.lineGaugeReport m x) s = .next s) ∧
    ((∀ v : Nat, x = some (v : Int) → 120 < v) → exec (.lineTemperatureReport m x) s = .next s) ∧
    ((∀ v : Nat, x = some (v : Int) → v < 2700 ∨ 3150 < v) → exec (.barometerReport x) s = .next s)

/-- An interval end of the set clock forms each interval value as the average of its readings, else the last used value, else the stand-in,
and marks an estimate (R119); it credits each meter from its own pulses, values and residue, posts the credit to the account's total,
therms, hour slot and counts, keeps it as last credit, and empties the gathering (R120); the barometer's value is then written with source
INTERVAL (R118). -/
def Obligations.IntervalEndCreditsEveryMeter : Prop :=
  ∀ (s : State) (c : ClockTime) (m : MeterId), s.yard.resetHeld = false → s.yard.clock = some c →
    let r := s.meter m
    let i := s.creditInputs s.accounts.barometer.interval m
    let f := factor i.barometer i.gauge i.temperature
    let credit := (r.pulses * s.settings.pulse.get m * f + r.residue) / 10000
    ∃ t : State, exec .intervalEnd s = .next t ∧
      (t.meter m).residue = (r.pulses * s.settings.pulse.get m * f + r.residue) % 10000 ∧
      t.accounts.btu.get m = (credit * s.settings.cv.get m + s.accounts.btu.get m) % 100000 ∧
      (t.meter m).pulses = 0 ∧ (t.meter m).saturated = false ∧ (t.meter m).gaugeCount = 0 ∧ (t.meter m).tempCount = 0 ∧
      (t.meter m).gaugeSum = 0 ∧ (t.meter m).tempSum = 0 ∧ t.accounts.barometer.sum = 0 ∧
      (t.meter m).lastCredit = some
        { ended := c, pulses := r.pulses, pulseValue := s.settings.pulse.get m, gauge := i.gauge, temperature := i.temperature,
          barometer := i.barometer, factor := f, credited := credit,
          estimated := i.estimated, saturated := r.saturated } ∧
      t.accounts.barometer.count = 0 ∧
      (∀ d, s.accounts.day = some d → ∃ e, t.accounts.day = some e ∧
        (e.accounts.get m).total = (d.accounts.get m).total + credit ∧
        (e.accounts.get m).therms = (d.accounts.get m).therms + (credit * s.settings.cv.get m + s.accounts.btu.get m) / 100000 ∧
        (∀ k : Fin 24, (e.accounts.get m).slots.get k = (d.accounts.get m).slots.get k +
          (if k.val = ((c.tod + 86399) % 86400 / 3600 + 24 - s.settings.startHour) % 24 then credit else 0)) ∧
        (e.accounts.get m).estimated =
          (if i.estimated then min ((d.accounts.get m).estimated + 1) 65535 else (d.accounts.get m).estimated) ∧
        (e.accounts.get m).saturated =
          (if r.saturated then min ((d.accounts.get m).saturated + 1) 65535 else (d.accounts.get m).saturated) ∧
        (e.accounts.get m).peak = (d.accounts.get m).peak) ∧
      (i.estimated = true → t.flags.get (.meter m .estimated) = true) ∧
      i.gauge = (if 0 < r.gaugeCount then (r.gaugeSum + r.gaugeCount / 2) / r.gaugeCount else r.lastG.getD s.settings.lineGauge) ∧
      i.temperature = (if 0 < r.tempCount then (r.tempSum + r.tempCount / 2) / r.tempCount
        else r.lastT.getD s.settings.lineTemperature) ∧
      i.barometer = (if 0 < s.accounts.barometer.count then
          (s.accounts.barometer.sum + s.accounts.barometer.count / 2) / s.accounts.barometer.count
        else (s.accounts.barometer.value.map Prod.fst).getD 3000) ∧
      i.estimated = (r.gaugeCount == 0 || r.tempCount == 0 || s.accounts.barometer.count == 0) ∧
      (t.meter m).lastG = (if 0 < r.gaugeCount then some i.gauge else r.lastG) ∧
      (t.meter m).lastT = (if 0 < r.tempCount then some i.temperature else r.lastT) ∧
      t.accounts.barometer.value =
        (if 0 < s.accounts.barometer.count then some (i.barometer, .interval) else s.accounts.barometer.value) ∧
      { t with accounts := s.accounts, flags := s.flags } = s ∧ t.accounts.closed = s.accounts.closed

/-- An hour end makes the slot of the hour just ended the peak so far where none is present or its figure is greater (R121). -/
def Obligations.HourEndUpdatesThePeak : Prop :=
  ∀ (s : State) (c : ClockTime) (d : DayRec) (m : MeterId), s.yard.resetHeld = false → s.yard.clock = some c →
    s.accounts.day = some d →
    let slot := slotBefore c.tod s.settings.startHour
    ∃ (t : State) (e : DayRec), exec .hourEnd s = .next t ∧ t.accounts.day = some e ∧
      (e.accounts.get m).peak = (match (d.accounts.get m).peak with
        | none => some ⟨slot, (d.accounts.get m).slots.get slot⟩
        | some p => if p.figure < (d.accounts.get m).slots.get slot then some ⟨slot, (d.accounts.get m).slots.get slot⟩ else some p) ∧
      (e.accounts.get m).total = (d.accounts.get m).total ∧ (e.accounts.get m).slots = (d.accounts.get m).slots ∧
      t = { s with accounts := { s.accounts with day := some e } } ∧
      e = { d with accounts := e.accounts }

/-- A day end strikes the balance of the closing day, with its INCOMPLETE mark and the account parts, replaces the closed-day record with
OVERWRITTEN for one not taken, writes every stock of the snapshot into its holder's last stock, and opens the next day BOUNDARY with zero
totals and the close stock, marked where the snapshot was incomplete, the residues carried (R125, R126, R127, R128, R172). -/
def Obligations.DayEndStrikesTheBalance : Prop :=
  ∀ (s : State) (c : ClockTime) (d : DayRec), s.yard.resetHeld = false → s.yard.clock = some c → s.accounts.day = some d →
    ∃ (t : State) (r : ClosedDay) (e : DayRec), exec .dayEnd s = .next t ∧ t.accounts.closed = some r ∧ t.accounts.day = some e ∧
      r.day = d.day ∧ r.taken = false ∧ r.clockJump = false ∧ r.short = decide (d.opened = .short) ∧
      r.make = (d.accounts.get .mc).total + (d.accounts.get .mw).total ∧
      r.sendOut = (d.accounts.get .m1).total + (d.accounts.get .m2).total + (d.accounts.get .m3).total + (d.accounts.get .m4).total ∧
      r.closeStock = ((HolderId.all.filter fun h => (s.holderSettings h).service = .inService).map s.closingStock).sum ∧
      (∀ o, d.openStock = some o → r.change = some ((r.closeStock : Int) - o) ∧
        r.balance = some ((r.make : Int) - r.sendOut - (r.closeStock - o))) ∧
      (d.openStock = none → r.change = none ∧ r.balance = none ∧ r.incomplete = true) ∧
      r.openStock = d.openStock ∧ some r.closeTime = t.yard.clock ∧
      (e.openMark = true ↔ ∃ h, (s.holderSettings h).service = .inService ∧ s.stock h = none) ∧
      r.incomplete = (e.openMark || d.openStock.isNone || d.openMark) ∧
      (∀ h, s.closingStock h = match s.stock h with
        | some k => k
        | none => ((s.holder h).lastStock.map LastStock.stock).getD 0) ∧
      (∀ m, (r.accounts.get m).total = (d.accounts.get m).total ∧ (r.accounts.get m).therms = (d.accounts.get m).therms ∧
        (r.accounts.get m).slots = (d.accounts.get m).slots ∧ (r.accounts.get m).estimated = (d.accounts.get m).estimated ∧
        (r.accounts.get m).saturated = (d.accounts.get m).saturated ∧ (r.accounts.get m).cv = s.settings.cv.get m ∧
        (∀ k, (r.accounts.get m).slots.get k ≤ (r.accounts.get m).slots.get (r.accounts.get m).peakHour) ∧
        (∀ k, k < (r.accounts.get m).peakHour →
          (r.accounts.get m).slots.get k < (r.accounts.get m).slots.get (r.accounts.get m).peakHour)) ∧
      (∀ m, (e.accounts.get m).total = 0 ∧ (e.accounts.get m).therms = 0 ∧ (∀ k, (e.accounts.get m).slots.get k = 0) ∧
        (e.accounts.get m).peak = none ∧ (e.accounts.get m).estimated = 0 ∧ (e.accounts.get m).saturated = 0) ∧
      e.day = (if c.day = 65535 then 1 else c.day + 1) ∧ e.opened = .boundary ∧ e.openStock = some r.closeStock ∧
      e.openStockTime = some r.closeTime ∧
      t.yard.clock = some ⟨if c.day = 65535 then 1 else c.day + 1, c.tod⟩ ∧
      t.accounts = { s.accounts with day := some e, closed := some r } ∧
      (s.shows .day = true → t.flags.get .overwritten = true) ∧
      { t with accounts := s.accounts, holders := s.holders, flags := s.flags, yard := { t.yard with clock := s.yard.clock } } = s ∧
      (∀ k, t.holder k = { s.holder k with lastStock := (t.holder k).lastStock }) ∧
      (∀ k, (t.holder k).lastStock.map LastStock.stock = if (s.holderSettings k).service = .inService ∧ s.stock k ≠ none then s.stock k
        else (s.holder k).lastStock.map LastStock.stock)

/-! ### What every step keeps -/

/-- Settings within their ranges in the working copy, the store and a save in hand stay so (10.6). -/
def Obligations.StepKeepsSettings : Prop := ∀ s t : State, s.SettingsOk → step s = .next t → t.SettingsOk

/-- Every valve's drive and timer go on agreeing with its state (2.1). -/
def Obligations.StepKeepsValves : Prop := ∀ s t : State, s.ValvesOk → step s = .next t → t.ValvesOk

/-- The slots, tags and finished list keep their laws, and outside RUN no order stands STARTING, RUNNING or OVERRUN (R38, R46, R57,
3.10). -/
def Obligations.StepKeepsOrders : Prop :=
  ∀ s t : State, s.OrdersOk ∧ s.QuietOutsideRun → step s = .next t → t.OrdersOk ∧ t.QuietOutsideRun

/-- No holder is granted or outgoing twice, every stage FIRST has its successor, HOLD holds no path, and a valve that can pass gas has its
holder on the path it serves (R65, R84). -/
def Obligations.StepKeepsPaths : Prop :=
  ∀ s t : State, s.PathsOk ∧ s.OpenValvesOk → step s = .next t → t.PathsOk ∧ t.OpenValvesOk

/-- The holders' live values go on agreeing with their settings (1.1, R2, R10, R12, R16). -/
def Obligations.StepKeepsHolders : Prop := ∀ s t : State, s.SettingsOk → s.HoldersOk → step s = .next t → t.HoldersOk

/-- The booster record keeps the shape of its state, the districts' standing agrees with it, and every loading keeps its law (8.5, 9.1,
R144, R156, R158). -/
def Obligations.StepKeepsStreetPressure : Prop :=
  ∀ s t : State, s.SettingsOk → s.BoosterOk ∧ s.LoadingOk → step s = .next t → t.BoosterOk ∧ t.LoadingOk

/-- The residues stay below their divisors and the counts within their limits; the clock stays within its ranges, with a gas day open under
its number exactly while it is set (R108, R110, R116, R117, R118, R122, R128, R172). -/
def Obligations.StepKeepsAccountsAndClock : Prop :=
  ∀ s t : State, s.AccountsOk ∧ s.ClockOk → step s = .next t → t.AccountsOk ∧ t.ClockOk

/-- The receiver stays within its lengths, and the gap timer runs exactly outside IDLE (R181, R183). That a request is in hand exactly while
its reply is sent is the model's deduction (log entry 3). -/
def Obligations.StepKeepsLine : Prop := ∀ s t : State, s.LineOk → step s = .next t → t.LineOk

/-- The state after reset meets every one of these. -/
def Obligations.ResetIsSound : Prop :=
  State.reset.SettingsOk ∧ State.reset.ValvesOk ∧ State.reset.OrdersOk ∧ State.reset.QuietOutsideRun ∧ State.reset.PathsOk ∧
  State.reset.OpenValvesOk ∧ State.reset.HoldersOk ∧ State.reset.BoosterOk ∧ State.reset.LoadingOk ∧ State.reset.AccountsOk ∧
  State.reset.ClockOk ∧ State.reset.LineOk
end

