-- ==== Sys2Proof/Laws/Tables.lean ====
section
/-!
SUPPORT. The small lemmas of the tables: reading back what was written, reading elsewhere, and reading a filled or mapped table.
-/
namespace Sys2Proof

@[simp] theorem HolderTable.get_set_same {α : Type} (t : HolderTable α) (h : HolderId) (a : α) : (t.set h a).get h = a := by cases h <;> rfl

theorem HolderTable.get_set_other {α : Type} (t : HolderTable α) {h h' : HolderId} (a : α) (hne : h' ≠ h) :
    (t.set h a).get h' = t.get h' := by cases h <;> cases h' <;> first | rfl | exact absurd rfl hne

/-- Every entry after a write, in one equation. -/
theorem HolderTable.get_set {α : Type} (t : HolderTable α) (h h' : HolderId) (a : α) :
    (t.set h a).get h' = if h' = h then a else t.get h' := by cases h <;> cases h' <;> rfl

@[simp] theorem HolderTable.set_get {α : Type} (t : HolderTable α) (h : HolderId) : t.set h (t.get h) = t := by cases h <;> rfl

@[simp] theorem HolderTable.get_fill {α : Type} (a : α) (h : HolderId) : (HolderTable.fill a).get h = a := by cases h <;> rfl

@[simp] theorem HolderTable.get_map {α β : Type} (f : α → β) (t : HolderTable α) (h : HolderId) :
    (t.map f).get h = f (t.get h) := by cases h <;> rfl

/-- Two tables with the same entries are the same. -/
theorem HolderTable.ext_get {α : Type} {t u : HolderTable α} (h : ∀ i, t.get i = u.get i) : t = u := by
  cases t; cases u
  rw [HolderTable.mk.injEq]
  exact ⟨h .h1, h .h2, h .h3, h .h4, h .h5, h .h6⟩

@[simp] theorem Sides.get_set_same {α : Type} (t : Sides α) (x : Side) (a : α) : (t.set x a).get x = a := by cases x <;> rfl

theorem Sides.get_set_other {α : Type} (t : Sides α) {x x' : Side} (a : α) (hne : x' ≠ x) :
    (t.set x a).get x' = t.get x' := by cases x <;> cases x' <;> first | rfl | exact absurd rfl hne

/-- Every entry after a write, in one equation. -/
theorem Sides.get_set {α : Type} (t : Sides α) (x x' : Side) (a : α) :
    (t.set x a).get x' = if x' = x then a else t.get x' := by cases x <;> cases x' <;> rfl

@[simp] theorem Sides.set_get {α : Type} (t : Sides α) (x : Side) : t.set x (t.get x) = t := by cases x <;> rfl

/-- Two tables with the same entries are the same. -/
theorem Sides.ext_get {α : Type} {t u : Sides α} (h : ∀ i, t.get i = u.get i) : t = u := by
  cases t; cases u
  rw [Sides.mk.injEq]
  exact ⟨h .inlet, h .outlet⟩

@[simp] theorem DistrictTable.get_set_same {α : Type} (t : DistrictTable α) (d : DistrictId) (a : α) : (t.set d a).get d = a := by cases d <;> rfl

theorem DistrictTable.get_set_other {α : Type} (t : DistrictTable α) {d d' : DistrictId} (a : α) (hne : d' ≠ d) :
    (t.set d a).get d' = t.get d' := by cases d <;> cases d' <;> first | rfl | exact absurd rfl hne

/-- Every entry after a write, in one equation. -/
theorem DistrictTable.get_set {α : Type} (t : DistrictTable α) (d d' : DistrictId) (a : α) :
    (t.set d a).get d' = if d' = d then a else t.get d' := by cases d <;> cases d' <;> rfl

@[simp] theorem DistrictTable.set_get {α : Type} (t : DistrictTable α) (d : DistrictId) : t.set d (t.get d) = t := by cases d <;> rfl

@[simp] theorem DistrictTable.get_fill {α : Type} (a : α) (d : DistrictId) : (DistrictTable.fill a).get d = a := by cases d <;> rfl

@[simp] theorem DistrictTable.get_map {α β : Type} (f : α → β) (t : DistrictTable α) (d : DistrictId) :
    (t.map f).get d = f (t.get d) := by cases d <;> rfl

/-- Two tables with the same entries are the same. -/
theorem DistrictTable.ext_get {α : Type} {t u : DistrictTable α} (h : ∀ i, t.get i = u.get i) : t = u := by
  cases t; cases u
  rw [DistrictTable.mk.injEq]
  exact ⟨h .d1, h .d2, h .d3, h .d4⟩

@[simp] theorem MeterTable.get_set_same {α : Type} (t : MeterTable α) (m : MeterId) (a : α) : (t.set m a).get m = a := by cases m <;> rfl

theorem MeterTable.get_set_other {α : Type} (t : MeterTable α) {m m' : MeterId} (a : α) (hne : m' ≠ m) :
    (t.set m a).get m' = t.get m' := by cases m <;> cases m' <;> first | rfl | exact absurd rfl hne

/-- Every entry after a write, in one equation. -/
theorem MeterTable.get_set {α : Type} (t : MeterTable α) (m m' : MeterId) (a : α) :
    (t.set m a).get m' = if m' = m then a else t.get m' := by cases m <;> cases m' <;> rfl

@[simp] theorem MeterTable.set_get {α : Type} (t : MeterTable α) (m : MeterId) : t.set m (t.get m) = t := by cases m <;> rfl

@[simp] theorem MeterTable.get_fill {α : Type} (a : α) (m : MeterId) : (MeterTable.fill a).get m = a := by cases m <;> rfl

/-- Two tables with the same entries are the same. -/
theorem MeterTable.ext_get {α : Type} {t u : MeterTable α} (h : ∀ i, t.get i = u.get i) : t = u := by
  cases t; cases u
  rw [MeterTable.mk.injEq]
  exact ⟨h .mc, h .mw, h .m1, h .m2, h .m3, h .m4⟩

@[simp] theorem MeterTable.get_tabulate {α : Type} (f : MeterId → α) (m : MeterId) : (MeterTable.tabulate f).get m = f m := by
  cases m <;> rfl

/-- Every path's entry after a write. -/
theorem PathTable.get_set {α : Type} (t : PathTable α) (p q : PathId) (a : α) :
    (t.set p a).get q = if q = p then a else t.get q := by
  cases p with
  | make => cases q <;> rfl
  | dist d => cases q with
    | make => rfl
    | dist e => simp [PathTable.set, PathTable.get, DistrictTable.get_set]

@[simp] theorem PathTable.get_set_same {α : Type} (t : PathTable α) (p : PathId) (a : α) : (t.set p a).get p = a := by
  rw [PathTable.get_set, if_pos rfl]

theorem PathTable.get_set_other {α : Type} (t : PathTable α) {p q : PathId} (a : α) (hne : q ≠ p) :
    (t.set p a).get q = t.get q := by rw [PathTable.get_set, if_neg hne]

@[simp] theorem PathTable.set_get {α : Type} (t : PathTable α) (p : PathId) : t.set p (t.get p) = t := by
  cases p <;> simp [PathTable.set, PathTable.get]

@[simp] theorem PathTable.get_fill {α : Type} (a : α) (p : PathId) : (PathTable.fill a).get p = a := by
  cases p <;> simp [PathTable.fill, PathTable.get]

@[simp] theorem PathTable.get_map {α β : Type} (f : α → β) (t : PathTable α) (p : PathId) : (t.map f).get p = f (t.get p) := by
  cases p <;> simp [PathTable.map, PathTable.get]

/-! ### The lists of names hold every name -/

theorem HolderId.mem_all (h : HolderId) : h ∈ HolderId.all := by cases h <;> decide
theorem DistrictId.mem_all (d : DistrictId) : d ∈ DistrictId.all := by cases d <;> decide
theorem MeterId.mem_all (m : MeterId) : m ∈ MeterId.all := by cases m <;> decide
theorem PathId.mem_all (p : PathId) : p ∈ PathId.all := by
  cases p with
  | make => decide
  | dist d => cases d <;> decide

/-- A rotation holds every holder, each once (R69). -/
theorem HolderId.mem_rotation (h k : HolderId) : k ∈ h.rotation := by cases h <;> cases k <;> decide

@[simp] theorem Side.sister_sister (side : Side) : side.sister.sister = side := by cases side <;> rfl

end Sys2Proof
end

