-- ==== Sys2Proof/Laws/State.lean ====
section
/-!
SUPPORT. One lemma for each field of the state and each update of one record: what the update leaves, and, for the record it writes,
what reading it gives back. All but the tables' own hold by unfolding, so that no later proof unfolds an update.
-/
namespace Sys2Proof.Machine

/-! ### setHolder -/

@[simp] theorem State.setHolder_settings (s : State) (h : HolderId) (r : HolderRec) : (s.setHolder h r).settings = s.settings := rfl
@[simp] theorem State.setHolder_store (s : State) (h : HolderId) (r : HolderRec) : (s.setHolder h r).store = s.store := rfl
@[simp] theorem State.setHolder_yard (s : State) (h : HolderId) (r : HolderRec) : (s.setHolder h r).yard = s.yard := rfl
@[simp] theorem State.setHolder_valves (s : State) (h : HolderId) (r : HolderRec) : (s.setHolder h r).valves = s.valves := rfl
@[simp] theorem State.setHolder_slots (s : State) (h : HolderId) (r : HolderRec) : (s.setHolder h r).slots = s.slots := rfl
@[simp] theorem State.setHolder_finished (s : State) (h : HolderId) (r : HolderRec) : (s.setHolder h r).finished = s.finished := rfl
@[simp] theorem State.setHolder_paths (s : State) (h : HolderId) (r : HolderRec) : (s.setHolder h r).paths = s.paths := rfl
@[simp] theorem State.setHolder_districts (s : State) (h : HolderId) (r : HolderRec) : (s.setHolder h r).districts = s.districts := rfl
@[simp] theorem State.setHolder_booster (s : State) (h : HolderId) (r : HolderRec) : (s.setHolder h r).booster = s.booster := rfl
@[simp] theorem State.setHolder_accounts (s : State) (h : HolderId) (r : HolderRec) : (s.setHolder h r).accounts = s.accounts := rfl
@[simp] theorem State.setHolder_line (s : State) (h : HolderId) (r : HolderRec) : (s.setHolder h r).line = s.line := rfl
@[simp] theorem State.setHolder_flags (s : State) (h : HolderId) (r : HolderRec) : (s.setHolder h r).flags = s.flags := rfl
@[simp] theorem State.setHolder_pending (s : State) (h : HolderId) (r : HolderRec) : (s.setHolder h r).pending = s.pending := rfl

/-! ### setHolderSettings -/

@[simp] theorem State.setHolderSettings_store (s : State) (h : HolderId) (c : HolderSettings) : (s.setHolderSettings h c).store = s.store := rfl
@[simp] theorem State.setHolderSettings_yard (s : State) (h : HolderId) (c : HolderSettings) : (s.setHolderSettings h c).yard = s.yard := rfl
@[simp] theorem State.setHolderSettings_holders (s : State) (h : HolderId) (c : HolderSettings) : (s.setHolderSettings h c).holders = s.holders := rfl
@[simp] theorem State.setHolderSettings_valves (s : State) (h : HolderId) (c : HolderSettings) : (s.setHolderSettings h c).valves = s.valves := rfl
@[simp] theorem State.setHolderSettings_slots (s : State) (h : HolderId) (c : HolderSettings) : (s.setHolderSettings h c).slots = s.slots := rfl
@[simp] theorem State.setHolderSettings_finished (s : State) (h : HolderId) (c : HolderSettings) : (s.setHolderSettings h c).finished = s.finished := rfl
@[simp] theorem State.setHolderSettings_paths (s : State) (h : HolderId) (c : HolderSettings) : (s.setHolderSettings h c).paths = s.paths := rfl
@[simp] theorem State.setHolderSettings_districts (s : State) (h : HolderId) (c : HolderSettings) : (s.setHolderSettings h c).districts = s.districts := rfl
@[simp] theorem State.setHolderSettings_booster (s : State) (h : HolderId) (c : HolderSettings) : (s.setHolderSettings h c).booster = s.booster := rfl
@[simp] theorem State.setHolderSettings_accounts (s : State) (h : HolderId) (c : HolderSettings) : (s.setHolderSettings h c).accounts = s.accounts := rfl
@[simp] theorem State.setHolderSettings_line (s : State) (h : HolderId) (c : HolderSettings) : (s.setHolderSettings h c).line = s.line := rfl
@[simp] theorem State.setHolderSettings_flags (s : State) (h : HolderId) (c : HolderSettings) : (s.setHolderSettings h c).flags = s.flags := rfl
@[simp] theorem State.setHolderSettings_pending (s : State) (h : HolderId) (c : HolderSettings) : (s.setHolderSettings h c).pending = s.pending := rfl

/-! ### setValve -/

@[simp] theorem State.setValve_settings (s : State) (h : HolderId) (side : Side) (v : ValveRec) : (s.setValve h side v).settings = s.settings := rfl
@[simp] theorem State.setValve_store (s : State) (h : HolderId) (side : Side) (v : ValveRec) : (s.setValve h side v).store = s.store := rfl
@[simp] theorem State.setValve_yard (s : State) (h : HolderId) (side : Side) (v : ValveRec) : (s.setValve h side v).yard = s.yard := rfl
@[simp] theorem State.setValve_holders (s : State) (h : HolderId) (side : Side) (v : ValveRec) : (s.setValve h side v).holders = s.holders := rfl
@[simp] theorem State.setValve_slots (s : State) (h : HolderId) (side : Side) (v : ValveRec) : (s.setValve h side v).slots = s.slots := rfl
@[simp] theorem State.setValve_finished (s : State) (h : HolderId) (side : Side) (v : ValveRec) : (s.setValve h side v).finished = s.finished := rfl
@[simp] theorem State.setValve_paths (s : State) (h : HolderId) (side : Side) (v : ValveRec) : (s.setValve h side v).paths = s.paths := rfl
@[simp] theorem State.setValve_districts (s : State) (h : HolderId) (side : Side) (v : ValveRec) : (s.setValve h side v).districts = s.districts := rfl
@[simp] theorem State.setValve_booster (s : State) (h : HolderId) (side : Side) (v : ValveRec) : (s.setValve h side v).booster = s.booster := rfl
@[simp] theorem State.setValve_accounts (s : State) (h : HolderId) (side : Side) (v : ValveRec) : (s.setValve h side v).accounts = s.accounts := rfl
@[simp] theorem State.setValve_line (s : State) (h : HolderId) (side : Side) (v : ValveRec) : (s.setValve h side v).line = s.line := rfl
@[simp] theorem State.setValve_flags (s : State) (h : HolderId) (side : Side) (v : ValveRec) : (s.setValve h side v).flags = s.flags := rfl
@[simp] theorem State.setValve_pending (s : State) (h : HolderId) (side : Side) (v : ValveRec) : (s.setValve h side v).pending = s.pending := rfl

/-! ### setSlots -/

@[simp] theorem State.setSlots_settings (s : State) (h : HolderId) (r : Slots) : (s.setSlots h r).settings = s.settings := rfl
@[simp] theorem State.setSlots_store (s : State) (h : HolderId) (r : Slots) : (s.setSlots h r).store = s.store := rfl
@[simp] theorem State.setSlots_yard (s : State) (h : HolderId) (r : Slots) : (s.setSlots h r).yard = s.yard := rfl
@[simp] theorem State.setSlots_holders (s : State) (h : HolderId) (r : Slots) : (s.setSlots h r).holders = s.holders := rfl
@[simp] theorem State.setSlots_valves (s : State) (h : HolderId) (r : Slots) : (s.setSlots h r).valves = s.valves := rfl
@[simp] theorem State.setSlots_finished (s : State) (h : HolderId) (r : Slots) : (s.setSlots h r).finished = s.finished := rfl
@[simp] theorem State.setSlots_paths (s : State) (h : HolderId) (r : Slots) : (s.setSlots h r).paths = s.paths := rfl
@[simp] theorem State.setSlots_districts (s : State) (h : HolderId) (r : Slots) : (s.setSlots h r).districts = s.districts := rfl
@[simp] theorem State.setSlots_booster (s : State) (h : HolderId) (r : Slots) : (s.setSlots h r).booster = s.booster := rfl
@[simp] theorem State.setSlots_accounts (s : State) (h : HolderId) (r : Slots) : (s.setSlots h r).accounts = s.accounts := rfl
@[simp] theorem State.setSlots_line (s : State) (h : HolderId) (r : Slots) : (s.setSlots h r).line = s.line := rfl
@[simp] theorem State.setSlots_flags (s : State) (h : HolderId) (r : Slots) : (s.setSlots h r).flags = s.flags := rfl
@[simp] theorem State.setSlots_pending (s : State) (h : HolderId) (r : Slots) : (s.setSlots h r).pending = s.pending := rfl

/-! ### setActive -/

@[simp] theorem State.setActive_settings (s : State) (h : HolderId) (o : Option Order) : (s.setActive h o).settings = s.settings := rfl
@[simp] theorem State.setActive_store (s : State) (h : HolderId) (o : Option Order) : (s.setActive h o).store = s.store := rfl
@[simp] theorem State.setActive_yard (s : State) (h : HolderId) (o : Option Order) : (s.setActive h o).yard = s.yard := rfl
@[simp] theorem State.setActive_holders (s : State) (h : HolderId) (o : Option Order) : (s.setActive h o).holders = s.holders := rfl
@[simp] theorem State.setActive_valves (s : State) (h : HolderId) (o : Option Order) : (s.setActive h o).valves = s.valves := rfl
@[simp] theorem State.setActive_finished (s : State) (h : HolderId) (o : Option Order) : (s.setActive h o).finished = s.finished := rfl
@[simp] theorem State.setActive_paths (s : State) (h : HolderId) (o : Option Order) : (s.setActive h o).paths = s.paths := rfl
@[simp] theorem State.setActive_districts (s : State) (h : HolderId) (o : Option Order) : (s.setActive h o).districts = s.districts := rfl
@[simp] theorem State.setActive_booster (s : State) (h : HolderId) (o : Option Order) : (s.setActive h o).booster = s.booster := rfl
@[simp] theorem State.setActive_accounts (s : State) (h : HolderId) (o : Option Order) : (s.setActive h o).accounts = s.accounts := rfl
@[simp] theorem State.setActive_line (s : State) (h : HolderId) (o : Option Order) : (s.setActive h o).line = s.line := rfl
@[simp] theorem State.setActive_flags (s : State) (h : HolderId) (o : Option Order) : (s.setActive h o).flags = s.flags := rfl
@[simp] theorem State.setActive_pending (s : State) (h : HolderId) (o : Option Order) : (s.setActive h o).pending = s.pending := rfl

/-! ### setFollowOn -/

@[simp] theorem State.setFollowOn_settings (s : State) (h : HolderId) (o : Option Order) : (s.setFollowOn h o).settings = s.settings := rfl
@[simp] theorem State.setFollowOn_store (s : State) (h : HolderId) (o : Option Order) : (s.setFollowOn h o).store = s.store := rfl
@[simp] theorem State.setFollowOn_yard (s : State) (h : HolderId) (o : Option Order) : (s.setFollowOn h o).yard = s.yard := rfl
@[simp] theorem State.setFollowOn_holders (s : State) (h : HolderId) (o : Option Order) : (s.setFollowOn h o).holders = s.holders := rfl
@[simp] theorem State.setFollowOn_valves (s : State) (h : HolderId) (o : Option Order) : (s.setFollowOn h o).valves = s.valves := rfl
@[simp] theorem State.setFollowOn_finished (s : State) (h : HolderId) (o : Option Order) : (s.setFollowOn h o).finished = s.finished := rfl
@[simp] theorem State.setFollowOn_paths (s : State) (h : HolderId) (o : Option Order) : (s.setFollowOn h o).paths = s.paths := rfl
@[simp] theorem State.setFollowOn_districts (s : State) (h : HolderId) (o : Option Order) : (s.setFollowOn h o).districts = s.districts := rfl
@[simp] theorem State.setFollowOn_booster (s : State) (h : HolderId) (o : Option Order) : (s.setFollowOn h o).booster = s.booster := rfl
@[simp] theorem State.setFollowOn_accounts (s : State) (h : HolderId) (o : Option Order) : (s.setFollowOn h o).accounts = s.accounts := rfl
@[simp] theorem State.setFollowOn_line (s : State) (h : HolderId) (o : Option Order) : (s.setFollowOn h o).line = s.line := rfl
@[simp] theorem State.setFollowOn_flags (s : State) (h : HolderId) (o : Option Order) : (s.setFollowOn h o).flags = s.flags := rfl
@[simp] theorem State.setFollowOn_pending (s : State) (h : HolderId) (o : Option Order) : (s.setFollowOn h o).pending = s.pending := rfl

/-! ### setPath -/

@[simp] theorem State.setPath_settings (s : State) (p : PathId) (r : PathRec) : (s.setPath p r).settings = s.settings := rfl
@[simp] theorem State.setPath_store (s : State) (p : PathId) (r : PathRec) : (s.setPath p r).store = s.store := rfl
@[simp] theorem State.setPath_yard (s : State) (p : PathId) (r : PathRec) : (s.setPath p r).yard = s.yard := rfl
@[simp] theorem State.setPath_holders (s : State) (p : PathId) (r : PathRec) : (s.setPath p r).holders = s.holders := rfl
@[simp] theorem State.setPath_valves (s : State) (p : PathId) (r : PathRec) : (s.setPath p r).valves = s.valves := rfl
@[simp] theorem State.setPath_slots (s : State) (p : PathId) (r : PathRec) : (s.setPath p r).slots = s.slots := rfl
@[simp] theorem State.setPath_finished (s : State) (p : PathId) (r : PathRec) : (s.setPath p r).finished = s.finished := rfl
@[simp] theorem State.setPath_districts (s : State) (p : PathId) (r : PathRec) : (s.setPath p r).districts = s.districts := rfl
@[simp] theorem State.setPath_booster (s : State) (p : PathId) (r : PathRec) : (s.setPath p r).booster = s.booster := rfl
@[simp] theorem State.setPath_accounts (s : State) (p : PathId) (r : PathRec) : (s.setPath p r).accounts = s.accounts := rfl
@[simp] theorem State.setPath_line (s : State) (p : PathId) (r : PathRec) : (s.setPath p r).line = s.line := rfl
@[simp] theorem State.setPath_flags (s : State) (p : PathId) (r : PathRec) : (s.setPath p r).flags = s.flags := rfl
@[simp] theorem State.setPath_pending (s : State) (p : PathId) (r : PathRec) : (s.setPath p r).pending = s.pending := rfl

/-! ### setPathState -/

@[simp] theorem State.setPathState_settings (s : State) (p : PathId) (st : PathState) : (s.setPathState p st).settings = s.settings := rfl
@[simp] theorem State.setPathState_store (s : State) (p : PathId) (st : PathState) : (s.setPathState p st).store = s.store := rfl
@[simp] theorem State.setPathState_yard (s : State) (p : PathId) (st : PathState) : (s.setPathState p st).yard = s.yard := rfl
@[simp] theorem State.setPathState_holders (s : State) (p : PathId) (st : PathState) : (s.setPathState p st).holders = s.holders := rfl
@[simp] theorem State.setPathState_valves (s : State) (p : PathId) (st : PathState) : (s.setPathState p st).valves = s.valves := rfl
@[simp] theorem State.setPathState_slots (s : State) (p : PathId) (st : PathState) : (s.setPathState p st).slots = s.slots := rfl
@[simp] theorem State.setPathState_finished (s : State) (p : PathId) (st : PathState) : (s.setPathState p st).finished = s.finished := rfl
@[simp] theorem State.setPathState_districts (s : State) (p : PathId) (st : PathState) : (s.setPathState p st).districts = s.districts := rfl
@[simp] theorem State.setPathState_booster (s : State) (p : PathId) (st : PathState) : (s.setPathState p st).booster = s.booster := rfl
@[simp] theorem State.setPathState_accounts (s : State) (p : PathId) (st : PathState) : (s.setPathState p st).accounts = s.accounts := rfl
@[simp] theorem State.setPathState_line (s : State) (p : PathId) (st : PathState) : (s.setPathState p st).line = s.line := rfl
@[simp] theorem State.setPathState_flags (s : State) (p : PathId) (st : PathState) : (s.setPathState p st).flags = s.flags := rfl
@[simp] theorem State.setPathState_pending (s : State) (p : PathId) (st : PathState) : (s.setPathState p st).pending = s.pending := rfl

/-! ### setDistrict -/

@[simp] theorem State.setDistrict_settings (s : State) (d : DistrictId) (r : DistrictRec) : (s.setDistrict d r).settings = s.settings := rfl
@[simp] theorem State.setDistrict_store (s : State) (d : DistrictId) (r : DistrictRec) : (s.setDistrict d r).store = s.store := rfl
@[simp] theorem State.setDistrict_yard (s : State) (d : DistrictId) (r : DistrictRec) : (s.setDistrict d r).yard = s.yard := rfl
@[simp] theorem State.setDistrict_holders (s : State) (d : DistrictId) (r : DistrictRec) : (s.setDistrict d r).holders = s.holders := rfl
@[simp] theorem State.setDistrict_valves (s : State) (d : DistrictId) (r : DistrictRec) : (s.setDistrict d r).valves = s.valves := rfl
@[simp] theorem State.setDistrict_slots (s : State) (d : DistrictId) (r : DistrictRec) : (s.setDistrict d r).slots = s.slots := rfl
@[simp] theorem State.setDistrict_finished (s : State) (d : DistrictId) (r : DistrictRec) : (s.setDistrict d r).finished = s.finished := rfl
@[simp] theorem State.setDistrict_paths (s : State) (d : DistrictId) (r : DistrictRec) : (s.setDistrict d r).paths = s.paths := rfl
@[simp] theorem State.setDistrict_booster (s : State) (d : DistrictId) (r : DistrictRec) : (s.setDistrict d r).booster = s.booster := rfl
@[simp] theorem State.setDistrict_accounts (s : State) (d : DistrictId) (r : DistrictRec) : (s.setDistrict d r).accounts = s.accounts := rfl
@[simp] theorem State.setDistrict_line (s : State) (d : DistrictId) (r : DistrictRec) : (s.setDistrict d r).line = s.line := rfl
@[simp] theorem State.setDistrict_flags (s : State) (d : DistrictId) (r : DistrictRec) : (s.setDistrict d r).flags = s.flags := rfl
@[simp] theorem State.setDistrict_pending (s : State) (d : DistrictId) (r : DistrictRec) : (s.setDistrict d r).pending = s.pending := rfl

/-! ### setDistrictSettings -/

@[simp] theorem State.setDistrictSettings_store (s : State) (d : DistrictId) (c : DistrictSettings) : (s.setDistrictSettings d c).store = s.store := rfl
@[simp] theorem State.setDistrictSettings_yard (s : State) (d : DistrictId) (c : DistrictSettings) : (s.setDistrictSettings d c).yard = s.yard := rfl
@[simp] theorem State.setDistrictSettings_holders (s : State) (d : DistrictId) (c : DistrictSettings) : (s.setDistrictSettings d c).holders = s.holders := rfl
@[simp] theorem State.setDistrictSettings_valves (s : State) (d : DistrictId) (c : DistrictSettings) : (s.setDistrictSettings d c).valves = s.valves := rfl
@[simp] theorem State.setDistrictSettings_slots (s : State) (d : DistrictId) (c : DistrictSettings) : (s.setDistrictSettings d c).slots = s.slots := rfl
@[simp] theorem State.setDistrictSettings_finished (s : State) (d : DistrictId) (c : DistrictSettings) : (s.setDistrictSettings d c).finished = s.finished := rfl
@[simp] theorem State.setDistrictSettings_paths (s : State) (d : DistrictId) (c : DistrictSettings) : (s.setDistrictSettings d c).paths = s.paths := rfl
@[simp] theorem State.setDistrictSettings_districts (s : State) (d : DistrictId) (c : DistrictSettings) : (s.setDistrictSettings d c).districts = s.districts := rfl
@[simp] theorem State.setDistrictSettings_booster (s : State) (d : DistrictId) (c : DistrictSettings) : (s.setDistrictSettings d c).booster = s.booster := rfl
@[simp] theorem State.setDistrictSettings_accounts (s : State) (d : DistrictId) (c : DistrictSettings) : (s.setDistrictSettings d c).accounts = s.accounts := rfl
@[simp] theorem State.setDistrictSettings_line (s : State) (d : DistrictId) (c : DistrictSettings) : (s.setDistrictSettings d c).line = s.line := rfl
@[simp] theorem State.setDistrictSettings_flags (s : State) (d : DistrictId) (c : DistrictSettings) : (s.setDistrictSettings d c).flags = s.flags := rfl
@[simp] theorem State.setDistrictSettings_pending (s : State) (d : DistrictId) (c : DistrictSettings) : (s.setDistrictSettings d c).pending = s.pending := rfl

/-! ### setMeter -/

@[simp] theorem State.setMeter_settings (s : State) (m : MeterId) (r : MeterRec) : (s.setMeter m r).settings = s.settings := rfl
@[simp] theorem State.setMeter_store (s : State) (m : MeterId) (r : MeterRec) : (s.setMeter m r).store = s.store := rfl
@[simp] theorem State.setMeter_yard (s : State) (m : MeterId) (r : MeterRec) : (s.setMeter m r).yard = s.yard := rfl
@[simp] theorem State.setMeter_holders (s : State) (m : MeterId) (r : MeterRec) : (s.setMeter m r).holders = s.holders := rfl
@[simp] theorem State.setMeter_valves (s : State) (m : MeterId) (r : MeterRec) : (s.setMeter m r).valves = s.valves := rfl
@[simp] theorem State.setMeter_slots (s : State) (m : MeterId) (r : MeterRec) : (s.setMeter m r).slots = s.slots := rfl
@[simp] theorem State.setMeter_finished (s : State) (m : MeterId) (r : MeterRec) : (s.setMeter m r).finished = s.finished := rfl
@[simp] theorem State.setMeter_paths (s : State) (m : MeterId) (r : MeterRec) : (s.setMeter m r).paths = s.paths := rfl
@[simp] theorem State.setMeter_districts (s : State) (m : MeterId) (r : MeterRec) : (s.setMeter m r).districts = s.districts := rfl
@[simp] theorem State.setMeter_booster (s : State) (m : MeterId) (r : MeterRec) : (s.setMeter m r).booster = s.booster := rfl
@[simp] theorem State.setMeter_line (s : State) (m : MeterId) (r : MeterRec) : (s.setMeter m r).line = s.line := rfl
@[simp] theorem State.setMeter_flags (s : State) (m : MeterId) (r : MeterRec) : (s.setMeter m r).flags = s.flags := rfl
@[simp] theorem State.setMeter_pending (s : State) (m : MeterId) (r : MeterRec) : (s.setMeter m r).pending = s.pending := rfl

/-! ### setBooster -/

@[simp] theorem State.setBooster_settings (s : State) (b : BoosterRec) : (s.setBooster b).settings = s.settings := rfl
@[simp] theorem State.setBooster_store (s : State) (b : BoosterRec) : (s.setBooster b).store = s.store := rfl
@[simp] theorem State.setBooster_yard (s : State) (b : BoosterRec) : (s.setBooster b).yard = s.yard := rfl
@[simp] theorem State.setBooster_holders (s : State) (b : BoosterRec) : (s.setBooster b).holders = s.holders := rfl
@[simp] theorem State.setBooster_valves (s : State) (b : BoosterRec) : (s.setBooster b).valves = s.valves := rfl
@[simp] theorem State.setBooster_slots (s : State) (b : BoosterRec) : (s.setBooster b).slots = s.slots := rfl
@[simp] theorem State.setBooster_finished (s : State) (b : BoosterRec) : (s.setBooster b).finished = s.finished := rfl
@[simp] theorem State.setBooster_paths (s : State) (b : BoosterRec) : (s.setBooster b).paths = s.paths := rfl
@[simp] theorem State.setBooster_districts (s : State) (b : BoosterRec) : (s.setBooster b).districts = s.districts := rfl
@[simp] theorem State.setBooster_accounts (s : State) (b : BoosterRec) : (s.setBooster b).accounts = s.accounts := rfl
@[simp] theorem State.setBooster_line (s : State) (b : BoosterRec) : (s.setBooster b).line = s.line := rfl
@[simp] theorem State.setBooster_flags (s : State) (b : BoosterRec) : (s.setBooster b).flags = s.flags := rfl
@[simp] theorem State.setBooster_pending (s : State) (b : BoosterRec) : (s.setBooster b).pending = s.pending := rfl

/-! ### markUnsaved -/

@[simp] theorem State.markUnsaved_settings (s : State) : (s.markUnsaved).settings = s.settings := rfl
@[simp] theorem State.markUnsaved_store (s : State) : (s.markUnsaved).store = s.store := rfl
@[simp] theorem State.markUnsaved_holders (s : State) : (s.markUnsaved).holders = s.holders := rfl
@[simp] theorem State.markUnsaved_valves (s : State) : (s.markUnsaved).valves = s.valves := rfl
@[simp] theorem State.markUnsaved_slots (s : State) : (s.markUnsaved).slots = s.slots := rfl
@[simp] theorem State.markUnsaved_finished (s : State) : (s.markUnsaved).finished = s.finished := rfl
@[simp] theorem State.markUnsaved_paths (s : State) : (s.markUnsaved).paths = s.paths := rfl
@[simp] theorem State.markUnsaved_districts (s : State) : (s.markUnsaved).districts = s.districts := rfl
@[simp] theorem State.markUnsaved_booster (s : State) : (s.markUnsaved).booster = s.booster := rfl
@[simp] theorem State.markUnsaved_accounts (s : State) : (s.markUnsaved).accounts = s.accounts := rfl
@[simp] theorem State.markUnsaved_line (s : State) : (s.markUnsaved).line = s.line := rfl
@[simp] theorem State.markUnsaved_flags (s : State) : (s.markUnsaved).flags = s.flags := rfl
@[simp] theorem State.markUnsaved_pending (s : State) : (s.markUnsaved).pending = s.pending := rfl

/-! ### markGathered -/

@[simp] theorem State.markGathered_settings (s : State) : (s.markGathered).settings = s.settings := rfl
@[simp] theorem State.markGathered_store (s : State) : (s.markGathered).store = s.store := rfl
@[simp] theorem State.markGathered_yard (s : State) : (s.markGathered).yard = s.yard := rfl
@[simp] theorem State.markGathered_holders (s : State) : (s.markGathered).holders = s.holders := rfl
@[simp] theorem State.markGathered_valves (s : State) : (s.markGathered).valves = s.valves := rfl
@[simp] theorem State.markGathered_slots (s : State) : (s.markGathered).slots = s.slots := rfl
@[simp] theorem State.markGathered_finished (s : State) : (s.markGathered).finished = s.finished := rfl
@[simp] theorem State.markGathered_paths (s : State) : (s.markGathered).paths = s.paths := rfl
@[simp] theorem State.markGathered_districts (s : State) : (s.markGathered).districts = s.districts := rfl
@[simp] theorem State.markGathered_booster (s : State) : (s.markGathered).booster = s.booster := rfl
@[simp] theorem State.markGathered_line (s : State) : (s.markGathered).line = s.line := rfl
@[simp] theorem State.markGathered_flags (s : State) : (s.markGathered).flags = s.flags := rfl
@[simp] theorem State.markGathered_pending (s : State) : (s.markGathered).pending = s.pending := rfl

/-! ### raise -/

@[simp] theorem State.raise_settings (s : State) (f : Flag) : (s.raise f).settings = s.settings := rfl
@[simp] theorem State.raise_store (s : State) (f : Flag) : (s.raise f).store = s.store := rfl
@[simp] theorem State.raise_yard (s : State) (f : Flag) : (s.raise f).yard = s.yard := rfl
@[simp] theorem State.raise_holders (s : State) (f : Flag) : (s.raise f).holders = s.holders := rfl
@[simp] theorem State.raise_valves (s : State) (f : Flag) : (s.raise f).valves = s.valves := rfl
@[simp] theorem State.raise_slots (s : State) (f : Flag) : (s.raise f).slots = s.slots := rfl
@[simp] theorem State.raise_finished (s : State) (f : Flag) : (s.raise f).finished = s.finished := rfl
@[simp] theorem State.raise_paths (s : State) (f : Flag) : (s.raise f).paths = s.paths := rfl
@[simp] theorem State.raise_districts (s : State) (f : Flag) : (s.raise f).districts = s.districts := rfl
@[simp] theorem State.raise_booster (s : State) (f : Flag) : (s.raise f).booster = s.booster := rfl
@[simp] theorem State.raise_accounts (s : State) (f : Flag) : (s.raise f).accounts = s.accounts := rfl
@[simp] theorem State.raise_line (s : State) (f : Flag) : (s.raise f).line = s.line := rfl
@[simp] theorem State.raise_pending (s : State) (f : Flag) : (s.raise f).pending = s.pending := rfl

/-! ### keepStock -/

@[simp] theorem State.keepStock_settings (s : State) (h : HolderId) (stock : Nat) : (s.keepStock h stock).settings = s.settings := rfl
@[simp] theorem State.keepStock_store (s : State) (h : HolderId) (stock : Nat) : (s.keepStock h stock).store = s.store := rfl
@[simp] theorem State.keepStock_yard (s : State) (h : HolderId) (stock : Nat) : (s.keepStock h stock).yard = s.yard := rfl
@[simp] theorem State.keepStock_valves (s : State) (h : HolderId) (stock : Nat) : (s.keepStock h stock).valves = s.valves := rfl
@[simp] theorem State.keepStock_slots (s : State) (h : HolderId) (stock : Nat) : (s.keepStock h stock).slots = s.slots := rfl
@[simp] theorem State.keepStock_finished (s : State) (h : HolderId) (stock : Nat) : (s.keepStock h stock).finished = s.finished := rfl
@[simp] theorem State.keepStock_paths (s : State) (h : HolderId) (stock : Nat) : (s.keepStock h stock).paths = s.paths := rfl
@[simp] theorem State.keepStock_districts (s : State) (h : HolderId) (stock : Nat) : (s.keepStock h stock).districts = s.districts := rfl
@[simp] theorem State.keepStock_booster (s : State) (h : HolderId) (stock : Nat) : (s.keepStock h stock).booster = s.booster := rfl
@[simp] theorem State.keepStock_accounts (s : State) (h : HolderId) (stock : Nat) : (s.keepStock h stock).accounts = s.accounts := rfl
@[simp] theorem State.keepStock_line (s : State) (h : HolderId) (stock : Nat) : (s.keepStock h stock).line = s.line := rfl
@[simp] theorem State.keepStock_flags (s : State) (h : HolderId) (stock : Nat) : (s.keepStock h stock).flags = s.flags := rfl
@[simp] theorem State.keepStock_pending (s : State) (h : HolderId) (stock : Nat) : (s.keepStock h stock).pending = s.pending := rfl

/-! ### markServed -/

@[simp] theorem State.markServed_settings (s : State) (p : PathId) (h : HolderId) : (s.markServed p h).settings = s.settings := rfl
@[simp] theorem State.markServed_store (s : State) (p : PathId) (h : HolderId) : (s.markServed p h).store = s.store := rfl
@[simp] theorem State.markServed_yard (s : State) (p : PathId) (h : HolderId) : (s.markServed p h).yard = s.yard := rfl
@[simp] theorem State.markServed_holders (s : State) (p : PathId) (h : HolderId) : (s.markServed p h).holders = s.holders := rfl
@[simp] theorem State.markServed_valves (s : State) (p : PathId) (h : HolderId) : (s.markServed p h).valves = s.valves := rfl
@[simp] theorem State.markServed_slots (s : State) (p : PathId) (h : HolderId) : (s.markServed p h).slots = s.slots := rfl
@[simp] theorem State.markServed_finished (s : State) (p : PathId) (h : HolderId) : (s.markServed p h).finished = s.finished := rfl
@[simp] theorem State.markServed_districts (s : State) (p : PathId) (h : HolderId) : (s.markServed p h).districts = s.districts := rfl
@[simp] theorem State.markServed_booster (s : State) (p : PathId) (h : HolderId) : (s.markServed p h).booster = s.booster := rfl
@[simp] theorem State.markServed_accounts (s : State) (p : PathId) (h : HolderId) : (s.markServed p h).accounts = s.accounts := rfl
@[simp] theorem State.markServed_line (s : State) (p : PathId) (h : HolderId) : (s.markServed p h).line = s.line := rfl
@[simp] theorem State.markServed_flags (s : State) (p : PathId) (h : HolderId) : (s.markServed p h).flags = s.flags := rfl
@[simp] theorem State.markServed_pending (s : State) (p : PathId) (h : HolderId) : (s.markServed p h).pending = s.pending := rfl

/-! ### setClock -/

@[simp] theorem State.setClock_settings (s : State) (c : ClockTime) : (s.setClock c).settings = s.settings := rfl
@[simp] theorem State.setClock_store (s : State) (c : ClockTime) : (s.setClock c).store = s.store := rfl
@[simp] theorem State.setClock_holders (s : State) (c : ClockTime) : (s.setClock c).holders = s.holders := rfl
@[simp] theorem State.setClock_valves (s : State) (c : ClockTime) : (s.setClock c).valves = s.valves := rfl
@[simp] theorem State.setClock_slots (s : State) (c : ClockTime) : (s.setClock c).slots = s.slots := rfl
@[simp] theorem State.setClock_finished (s : State) (c : ClockTime) : (s.setClock c).finished = s.finished := rfl
@[simp] theorem State.setClock_paths (s : State) (c : ClockTime) : (s.setClock c).paths = s.paths := rfl
@[simp] theorem State.setClock_districts (s : State) (c : ClockTime) : (s.setClock c).districts = s.districts := rfl
@[simp] theorem State.setClock_booster (s : State) (c : ClockTime) : (s.setClock c).booster = s.booster := rfl
@[simp] theorem State.setClock_accounts (s : State) (c : ClockTime) : (s.setClock c).accounts = s.accounts := rfl
@[simp] theorem State.setClock_line (s : State) (c : ClockTime) : (s.setClock c).line = s.line := rfl
@[simp] theorem State.setClock_flags (s : State) (c : ClockTime) : (s.setClock c).flags = s.flags := rfl
@[simp] theorem State.setClock_pending (s : State) (c : ClockTime) : (s.setClock c).pending = s.pending := rfl

/-! ### receive -/

@[simp] theorem State.receive_settings (s : State) (r : Receiver) : (s.receive r).settings = s.settings := rfl
@[simp] theorem State.receive_store (s : State) (r : Receiver) : (s.receive r).store = s.store := rfl
@[simp] theorem State.receive_yard (s : State) (r : Receiver) : (s.receive r).yard = s.yard := rfl
@[simp] theorem State.receive_holders (s : State) (r : Receiver) : (s.receive r).holders = s.holders := rfl
@[simp] theorem State.receive_valves (s : State) (r : Receiver) : (s.receive r).valves = s.valves := rfl
@[simp] theorem State.receive_slots (s : State) (r : Receiver) : (s.receive r).slots = s.slots := rfl
@[simp] theorem State.receive_finished (s : State) (r : Receiver) : (s.receive r).finished = s.finished := rfl
@[simp] theorem State.receive_paths (s : State) (r : Receiver) : (s.receive r).paths = s.paths := rfl
@[simp] theorem State.receive_districts (s : State) (r : Receiver) : (s.receive r).districts = s.districts := rfl
@[simp] theorem State.receive_booster (s : State) (r : Receiver) : (s.receive r).booster = s.booster := rfl
@[simp] theorem State.receive_accounts (s : State) (r : Receiver) : (s.receive r).accounts = s.accounts := rfl
@[simp] theorem State.receive_flags (s : State) (r : Receiver) : (s.receive r).flags = s.flags := rfl
@[simp] theorem State.receive_pending (s : State) (r : Receiver) : (s.receive r).pending = s.pending := rfl

/-! ### sendReply -/

@[simp] theorem State.sendReply_settings (s : State) (verb : Text) (args : List Text) (code : OutcomeCode) (data : List Text) : (s.sendReply verb args code data).settings = s.settings := rfl
@[simp] theorem State.sendReply_store (s : State) (verb : Text) (args : List Text) (code : OutcomeCode) (data : List Text) : (s.sendReply verb args code data).store = s.store := rfl
@[simp] theorem State.sendReply_yard (s : State) (verb : Text) (args : List Text) (code : OutcomeCode) (data : List Text) : (s.sendReply verb args code data).yard = s.yard := rfl
@[simp] theorem State.sendReply_holders (s : State) (verb : Text) (args : List Text) (code : OutcomeCode) (data : List Text) : (s.sendReply verb args code data).holders = s.holders := rfl
@[simp] theorem State.sendReply_valves (s : State) (verb : Text) (args : List Text) (code : OutcomeCode) (data : List Text) : (s.sendReply verb args code data).valves = s.valves := rfl
@[simp] theorem State.sendReply_slots (s : State) (verb : Text) (args : List Text) (code : OutcomeCode) (data : List Text) : (s.sendReply verb args code data).slots = s.slots := rfl
@[simp] theorem State.sendReply_finished (s : State) (verb : Text) (args : List Text) (code : OutcomeCode) (data : List Text) : (s.sendReply verb args code data).finished = s.finished := rfl
@[simp] theorem State.sendReply_paths (s : State) (verb : Text) (args : List Text) (code : OutcomeCode) (data : List Text) : (s.sendReply verb args code data).paths = s.paths := rfl
@[simp] theorem State.sendReply_districts (s : State) (verb : Text) (args : List Text) (code : OutcomeCode) (data : List Text) : (s.sendReply verb args code data).districts = s.districts := rfl
@[simp] theorem State.sendReply_booster (s : State) (verb : Text) (args : List Text) (code : OutcomeCode) (data : List Text) : (s.sendReply verb args code data).booster = s.booster := rfl
@[simp] theorem State.sendReply_accounts (s : State) (verb : Text) (args : List Text) (code : OutcomeCode) (data : List Text) : (s.sendReply verb args code data).accounts = s.accounts := rfl
@[simp] theorem State.sendReply_flags (s : State) (verb : Text) (args : List Text) (code : OutcomeCode) (data : List Text) : (s.sendReply verb args code data).flags = s.flags := rfl
@[simp] theorem State.sendReply_pending (s : State) (verb : Text) (args : List Text) (code : OutcomeCode) (data : List Text) : (s.sendReply verb args code data).pending = s.pending := rfl

/-! ### discard -/

@[simp] theorem State.discard_settings (s : State) (c : Discard) : (s.discard c).settings = s.settings := rfl
@[simp] theorem State.discard_store (s : State) (c : Discard) : (s.discard c).store = s.store := rfl
@[simp] theorem State.discard_yard (s : State) (c : Discard) : (s.discard c).yard = s.yard := rfl
@[simp] theorem State.discard_holders (s : State) (c : Discard) : (s.discard c).holders = s.holders := rfl
@[simp] theorem State.discard_valves (s : State) (c : Discard) : (s.discard c).valves = s.valves := rfl
@[simp] theorem State.discard_slots (s : State) (c : Discard) : (s.discard c).slots = s.slots := rfl
@[simp] theorem State.discard_finished (s : State) (c : Discard) : (s.discard c).finished = s.finished := rfl
@[simp] theorem State.discard_paths (s : State) (c : Discard) : (s.discard c).paths = s.paths := rfl
@[simp] theorem State.discard_districts (s : State) (c : Discard) : (s.discard c).districts = s.districts := rfl
@[simp] theorem State.discard_booster (s : State) (c : Discard) : (s.discard c).booster = s.booster := rfl
@[simp] theorem State.discard_accounts (s : State) (c : Discard) : (s.discard c).accounts = s.accounts := rfl
@[simp] theorem State.discard_pending (s : State) (c : Discard) : (s.discard c).pending = s.pending := rfl

/-! ### recordRefusal -/

@[simp] theorem State.recordRefusal_settings (s : State) (verb : Text) (code : OutcomeCode) : (s.recordRefusal verb code).settings = s.settings := rfl
@[simp] theorem State.recordRefusal_store (s : State) (verb : Text) (code : OutcomeCode) : (s.recordRefusal verb code).store = s.store := rfl
@[simp] theorem State.recordRefusal_yard (s : State) (verb : Text) (code : OutcomeCode) : (s.recordRefusal verb code).yard = s.yard := rfl
@[simp] theorem State.recordRefusal_holders (s : State) (verb : Text) (code : OutcomeCode) : (s.recordRefusal verb code).holders = s.holders := rfl
@[simp] theorem State.recordRefusal_valves (s : State) (verb : Text) (code : OutcomeCode) : (s.recordRefusal verb code).valves = s.valves := rfl
@[simp] theorem State.recordRefusal_slots (s : State) (verb : Text) (code : OutcomeCode) : (s.recordRefusal verb code).slots = s.slots := rfl
@[simp] theorem State.recordRefusal_finished (s : State) (verb : Text) (code : OutcomeCode) : (s.recordRefusal verb code).finished = s.finished := rfl
@[simp] theorem State.recordRefusal_paths (s : State) (verb : Text) (code : OutcomeCode) : (s.recordRefusal verb code).paths = s.paths := rfl
@[simp] theorem State.recordRefusal_districts (s : State) (verb : Text) (code : OutcomeCode) : (s.recordRefusal verb code).districts = s.districts := rfl
@[simp] theorem State.recordRefusal_booster (s : State) (verb : Text) (code : OutcomeCode) : (s.recordRefusal verb code).booster = s.booster := rfl
@[simp] theorem State.recordRefusal_accounts (s : State) (verb : Text) (code : OutcomeCode) : (s.recordRefusal verb code).accounts = s.accounts := rfl
@[simp] theorem State.recordRefusal_pending (s : State) (verb : Text) (code : OutcomeCode) : (s.recordRefusal verb code).pending = s.pending := rfl

/-! ### Reading a record of another kind -/

@[simp] theorem State.holderSettings_setHolder (s : State) (h : HolderId) (r : HolderRec) (k : HolderId) : (s.setHolder h r).holderSettings k = s.holderSettings k := rfl
@[simp] theorem State.valve_setHolder (s : State) (h : HolderId) (r : HolderRec) (k : HolderId) (x : Side) : (s.setHolder h r).valve k x = s.valve k x := rfl
@[simp] theorem State.active_setHolder (s : State) (h : HolderId) (r : HolderRec) (k : HolderId) : (s.setHolder h r).active k = s.active k := rfl
@[simp] theorem State.followOn_setHolder (s : State) (h : HolderId) (r : HolderRec) (k : HolderId) : (s.setHolder h r).followOn k = s.followOn k := rfl
@[simp] theorem State.path_setHolder (s : State) (h : HolderId) (r : HolderRec) (q : PathId) : (s.setHolder h r).path q = s.path q := rfl
@[simp] theorem State.district_setHolder (s : State) (h : HolderId) (r : HolderRec) (e : DistrictId) : (s.setHolder h r).district e = s.district e := rfl
@[simp] theorem State.districtSettings_setHolder (s : State) (h : HolderId) (r : HolderRec) (e : DistrictId) : (s.setHolder h r).districtSettings e = s.districtSettings e := rfl
@[simp] theorem State.meter_setHolder (s : State) (h : HolderId) (r : HolderRec) (n : MeterId) : (s.setHolder h r).meter n = s.meter n := rfl
@[simp] theorem State.now_setHolder (s : State) (h : HolderId) (r : HolderRec) : (s.setHolder h r).now = s.now := rfl
@[simp] theorem State.holder_setHolderSettings (s : State) (h : HolderId) (c : HolderSettings) (k : HolderId) : (s.setHolderSettings h c).holder k = s.holder k := rfl
@[simp] theorem State.valve_setHolderSettings (s : State) (h : HolderId) (c : HolderSettings) (k : HolderId) (x : Side) : (s.setHolderSettings h c).valve k x = s.valve k x := rfl
@[simp] theorem State.active_setHolderSettings (s : State) (h : HolderId) (c : HolderSettings) (k : HolderId) : (s.setHolderSettings h c).active k = s.active k := rfl
@[simp] theorem State.followOn_setHolderSettings (s : State) (h : HolderId) (c : HolderSettings) (k : HolderId) : (s.setHolderSettings h c).followOn k = s.followOn k := rfl
@[simp] theorem State.path_setHolderSettings (s : State) (h : HolderId) (c : HolderSettings) (q : PathId) : (s.setHolderSettings h c).path q = s.path q := rfl
@[simp] theorem State.district_setHolderSettings (s : State) (h : HolderId) (c : HolderSettings) (e : DistrictId) : (s.setHolderSettings h c).district e = s.district e := rfl
@[simp] theorem State.meter_setHolderSettings (s : State) (h : HolderId) (c : HolderSettings) (n : MeterId) : (s.setHolderSettings h c).meter n = s.meter n := rfl
@[simp] theorem State.now_setHolderSettings (s : State) (h : HolderId) (c : HolderSettings) : (s.setHolderSettings h c).now = s.now := rfl
@[simp] theorem State.holder_setValve (s : State) (h : HolderId) (side : Side) (v : ValveRec) (k : HolderId) : (s.setValve h side v).holder k = s.holder k := rfl
@[simp] theorem State.holderSettings_setValve (s : State) (h : HolderId) (side : Side) (v : ValveRec) (k : HolderId) : (s.setValve h side v).holderSettings k = s.holderSettings k := rfl
@[simp] theorem State.active_setValve (s : State) (h : HolderId) (side : Side) (v : ValveRec) (k : HolderId) : (s.setValve h side v).active k = s.active k := rfl
@[simp] theorem State.followOn_setValve (s : State) (h : HolderId) (side : Side) (v : ValveRec) (k : HolderId) : (s.setValve h side v).followOn k = s.followOn k := rfl
@[simp] theorem State.path_setValve (s : State) (h : HolderId) (side : Side) (v : ValveRec) (q : PathId) : (s.setValve h side v).path q = s.path q := rfl
@[simp] theorem State.district_setValve (s : State) (h : HolderId) (side : Side) (v : ValveRec) (e : DistrictId) : (s.setValve h side v).district e = s.district e := rfl
@[simp] theorem State.districtSettings_setValve (s : State) (h : HolderId) (side : Side) (v : ValveRec) (e : DistrictId) : (s.setValve h side v).districtSettings e = s.districtSettings e := rfl
@[simp] theorem State.meter_setValve (s : State) (h : HolderId) (side : Side) (v : ValveRec) (n : MeterId) : (s.setValve h side v).meter n = s.meter n := rfl
@[simp] theorem State.now_setValve (s : State) (h : HolderId) (side : Side) (v : ValveRec) : (s.setValve h side v).now = s.now := rfl
@[simp] theorem State.holder_setSlots (s : State) (h : HolderId) (r : Slots) (k : HolderId) : (s.setSlots h r).holder k = s.holder k := rfl
@[simp] theorem State.holderSettings_setSlots (s : State) (h : HolderId) (r : Slots) (k : HolderId) : (s.setSlots h r).holderSettings k = s.holderSettings k := rfl
@[simp] theorem State.valve_setSlots (s : State) (h : HolderId) (r : Slots) (k : HolderId) (x : Side) : (s.setSlots h r).valve k x = s.valve k x := rfl
@[simp] theorem State.path_setSlots (s : State) (h : HolderId) (r : Slots) (q : PathId) : (s.setSlots h r).path q = s.path q := rfl
@[simp] theorem State.district_setSlots (s : State) (h : HolderId) (r : Slots) (e : DistrictId) : (s.setSlots h r).district e = s.district e := rfl
@[simp] theorem State.districtSettings_setSlots (s : State) (h : HolderId) (r : Slots) (e : DistrictId) : (s.setSlots h r).districtSettings e = s.districtSettings e := rfl
@[simp] theorem State.meter_setSlots (s : State) (h : HolderId) (r : Slots) (n : MeterId) : (s.setSlots h r).meter n = s.meter n := rfl
@[simp] theorem State.now_setSlots (s : State) (h : HolderId) (r : Slots) : (s.setSlots h r).now = s.now := rfl
@[simp] theorem State.holder_setActive (s : State) (h : HolderId) (o : Option Order) (k : HolderId) : (s.setActive h o).holder k = s.holder k := rfl
@[simp] theorem State.holderSettings_setActive (s : State) (h : HolderId) (o : Option Order) (k : HolderId) : (s.setActive h o).holderSettings k = s.holderSettings k := rfl
@[simp] theorem State.valve_setActive (s : State) (h : HolderId) (o : Option Order) (k : HolderId) (x : Side) : (s.setActive h o).valve k x = s.valve k x := rfl
@[simp] theorem State.path_setActive (s : State) (h : HolderId) (o : Option Order) (q : PathId) : (s.setActive h o).path q = s.path q := rfl
@[simp] theorem State.district_setActive (s : State) (h : HolderId) (o : Option Order) (e : DistrictId) : (s.setActive h o).district e = s.district e := rfl
@[simp] theorem State.districtSettings_setActive (s : State) (h : HolderId) (o : Option Order) (e : DistrictId) : (s.setActive h o).districtSettings e = s.districtSettings e := rfl
@[simp] theorem State.meter_setActive (s : State) (h : HolderId) (o : Option Order) (n : MeterId) : (s.setActive h o).meter n = s.meter n := rfl
@[simp] theorem State.now_setActive (s : State) (h : HolderId) (o : Option Order) : (s.setActive h o).now = s.now := rfl
@[simp] theorem State.holder_setFollowOn (s : State) (h : HolderId) (o : Option Order) (k : HolderId) : (s.setFollowOn h o).holder k = s.holder k := rfl
@[simp] theorem State.holderSettings_setFollowOn (s : State) (h : HolderId) (o : Option Order) (k : HolderId) : (s.setFollowOn h o).holderSettings k = s.holderSettings k := rfl
@[simp] theorem State.valve_setFollowOn (s : State) (h : HolderId) (o : Option Order) (k : HolderId) (x : Side) : (s.setFollowOn h o).valve k x = s.valve k x := rfl
@[simp] theorem State.path_setFollowOn (s : State) (h : HolderId) (o : Option Order) (q : PathId) : (s.setFollowOn h o).path q = s.path q := rfl
@[simp] theorem State.district_setFollowOn (s : State) (h : HolderId) (o : Option Order) (e : DistrictId) : (s.setFollowOn h o).district e = s.district e := rfl
@[simp] theorem State.districtSettings_setFollowOn (s : State) (h : HolderId) (o : Option Order) (e : DistrictId) : (s.setFollowOn h o).districtSettings e = s.districtSettings e := rfl
@[simp] theorem State.meter_setFollowOn (s : State) (h : HolderId) (o : Option Order) (n : MeterId) : (s.setFollowOn h o).meter n = s.meter n := rfl
@[simp] theorem State.now_setFollowOn (s : State) (h : HolderId) (o : Option Order) : (s.setFollowOn h o).now = s.now := rfl
@[simp] theorem State.holder_setPath (s : State) (p : PathId) (r : PathRec) (k : HolderId) : (s.setPath p r).holder k = s.holder k := rfl
@[simp] theorem State.holderSettings_setPath (s : State) (p : PathId) (r : PathRec) (k : HolderId) : (s.setPath p r).holderSettings k = s.holderSettings k := rfl
@[simp] theorem State.valve_setPath (s : State) (p : PathId) (r : PathRec) (k : HolderId) (x : Side) : (s.setPath p r).valve k x = s.valve k x := rfl
@[simp] theorem State.active_setPath (s : State) (p : PathId) (r : PathRec) (k : HolderId) : (s.setPath p r).active k = s.active k := rfl
@[simp] theorem State.followOn_setPath (s : State) (p : PathId) (r : PathRec) (k : HolderId) : (s.setPath p r).followOn k = s.followOn k := rfl
@[simp] theorem State.district_setPath (s : State) (p : PathId) (r : PathRec) (e : DistrictId) : (s.setPath p r).district e = s.district e := rfl
@[simp] theorem State.districtSettings_setPath (s : State) (p : PathId) (r : PathRec) (e : DistrictId) : (s.setPath p r).districtSettings e = s.districtSettings e := rfl
@[simp] theorem State.meter_setPath (s : State) (p : PathId) (r : PathRec) (n : MeterId) : (s.setPath p r).meter n = s.meter n := rfl
@[simp] theorem State.now_setPath (s : State) (p : PathId) (r : PathRec) : (s.setPath p r).now = s.now := rfl
@[simp] theorem State.holder_setPathState (s : State) (p : PathId) (st : PathState) (k : HolderId) : (s.setPathState p st).holder k = s.holder k := rfl
@[simp] theorem State.holderSettings_setPathState (s : State) (p : PathId) (st : PathState) (k : HolderId) : (s.setPathState p st).holderSettings k = s.holderSettings k := rfl
@[simp] theorem State.valve_setPathState (s : State) (p : PathId) (st : PathState) (k : HolderId) (x : Side) : (s.setPathState p st).valve k x = s.valve k x := rfl
@[simp] theorem State.active_setPathState (s : State) (p : PathId) (st : PathState) (k : HolderId) : (s.setPathState p st).active k = s.active k := rfl
@[simp] theorem State.followOn_setPathState (s : State) (p : PathId) (st : PathState) (k : HolderId) : (s.setPathState p st).followOn k = s.followOn k := rfl
@[simp] theorem State.district_setPathState (s : State) (p : PathId) (st : PathState) (e : DistrictId) : (s.setPathState p st).district e = s.district e := rfl
@[simp] theorem State.districtSettings_setPathState (s : State) (p : PathId) (st : PathState) (e : DistrictId) : (s.setPathState p st).districtSettings e = s.districtSettings e := rfl
@[simp] theorem State.meter_setPathState (s : State) (p : PathId) (st : PathState) (n : MeterId) : (s.setPathState p st).meter n = s.meter n := rfl
@[simp] theorem State.now_setPathState (s : State) (p : PathId) (st : PathState) : (s.setPathState p st).now = s.now := rfl
@[simp] theorem State.holder_setDistrict (s : State) (d : DistrictId) (r : DistrictRec) (k : HolderId) : (s.setDistrict d r).holder k = s.holder k := rfl
@[simp] theorem State.holderSettings_setDistrict (s : State) (d : DistrictId) (r : DistrictRec) (k : HolderId) : (s.setDistrict d r).holderSettings k = s.holderSettings k := rfl
@[simp] theorem State.valve_setDistrict (s : State) (d : DistrictId) (r : DistrictRec) (k : HolderId) (x : Side) : (s.setDistrict d r).valve k x = s.valve k x := rfl
@[simp] theorem State.active_setDistrict (s : State) (d : DistrictId) (r : DistrictRec) (k : HolderId) : (s.setDistrict d r).active k = s.active k := rfl
@[simp] theorem State.followOn_setDistrict (s : State) (d : DistrictId) (r : DistrictRec) (k : HolderId) : (s.setDistrict d r).followOn k = s.followOn k := rfl
@[simp] theorem State.path_setDistrict (s : State) (d : DistrictId) (r : DistrictRec) (q : PathId) : (s.setDistrict d r).path q = s.path q := rfl
@[simp] theorem State.districtSettings_setDistrict (s : State) (d : DistrictId) (r : DistrictRec) (e : DistrictId) : (s.setDistrict d r).districtSettings e = s.districtSettings e := rfl
@[simp] theorem State.meter_setDistrict (s : State) (d : DistrictId) (r : DistrictRec) (n : MeterId) : (s.setDistrict d r).meter n = s.meter n := rfl
@[simp] theorem State.now_setDistrict (s : State) (d : DistrictId) (r : DistrictRec) : (s.setDistrict d r).now = s.now := rfl
@[simp] theorem State.holder_setDistrictSettings (s : State) (d : DistrictId) (c : DistrictSettings) (k : HolderId) : (s.setDistrictSettings d c).holder k = s.holder k := rfl
@[simp] theorem State.valve_setDistrictSettings (s : State) (d : DistrictId) (c : DistrictSettings) (k : HolderId) (x : Side) : (s.setDistrictSettings d c).valve k x = s.valve k x := rfl
@[simp] theorem State.active_setDistrictSettings (s : State) (d : DistrictId) (c : DistrictSettings) (k : HolderId) : (s.setDistrictSettings d c).active k = s.active k := rfl
@[simp] theorem State.followOn_setDistrictSettings (s : State) (d : DistrictId) (c : DistrictSettings) (k : HolderId) : (s.setDistrictSettings d c).followOn k = s.followOn k := rfl
@[simp] theorem State.path_setDistrictSettings (s : State) (d : DistrictId) (c : DistrictSettings) (q : PathId) : (s.setDistrictSettings d c).path q = s.path q := rfl
@[simp] theorem State.district_setDistrictSettings (s : State) (d : DistrictId) (c : DistrictSettings) (e : DistrictId) : (s.setDistrictSettings d c).district e = s.district e := rfl
@[simp] theorem State.meter_setDistrictSettings (s : State) (d : DistrictId) (c : DistrictSettings) (n : MeterId) : (s.setDistrictSettings d c).meter n = s.meter n := rfl
@[simp] theorem State.now_setDistrictSettings (s : State) (d : DistrictId) (c : DistrictSettings) : (s.setDistrictSettings d c).now = s.now := rfl
@[simp] theorem State.holder_setMeter (s : State) (m : MeterId) (r : MeterRec) (k : HolderId) : (s.setMeter m r).holder k = s.holder k := rfl
@[simp] theorem State.holderSettings_setMeter (s : State) (m : MeterId) (r : MeterRec) (k : HolderId) : (s.setMeter m r).holderSettings k = s.holderSettings k := rfl
@[simp] theorem State.valve_setMeter (s : State) (m : MeterId) (r : MeterRec) (k : HolderId) (x : Side) : (s.setMeter m r).valve k x = s.valve k x := rfl
@[simp] theorem State.active_setMeter (s : State) (m : MeterId) (r : MeterRec) (k : HolderId) : (s.setMeter m r).active k = s.active k := rfl
@[simp] theorem State.followOn_setMeter (s : State) (m : MeterId) (r : MeterRec) (k : HolderId) : (s.setMeter m r).followOn k = s.followOn k := rfl
@[simp] theorem State.path_setMeter (s : State) (m : MeterId) (r : MeterRec) (q : PathId) : (s.setMeter m r).path q = s.path q := rfl
@[simp] theorem State.district_setMeter (s : State) (m : MeterId) (r : MeterRec) (e : DistrictId) : (s.setMeter m r).district e = s.district e := rfl
@[simp] theorem State.districtSettings_setMeter (s : State) (m : MeterId) (r : MeterRec) (e : DistrictId) : (s.setMeter m r).districtSettings e = s.districtSettings e := rfl
@[simp] theorem State.now_setMeter (s : State) (m : MeterId) (r : MeterRec) : (s.setMeter m r).now = s.now := rfl
@[simp] theorem State.holder_setBooster (s : State) (b : BoosterRec) (k : HolderId) : (s.setBooster b).holder k = s.holder k := rfl
@[simp] theorem State.holderSettings_setBooster (s : State) (b : BoosterRec) (k : HolderId) : (s.setBooster b).holderSettings k = s.holderSettings k := rfl
@[simp] theorem State.valve_setBooster (s : State) (b : BoosterRec) (k : HolderId) (x : Side) : (s.setBooster b).valve k x = s.valve k x := rfl
@[simp] theorem State.active_setBooster (s : State) (b : BoosterRec) (k : HolderId) : (s.setBooster b).active k = s.active k := rfl
@[simp] theorem State.followOn_setBooster (s : State) (b : BoosterRec) (k : HolderId) : (s.setBooster b).followOn k = s.followOn k := rfl
@[simp] theorem State.path_setBooster (s : State) (b : BoosterRec) (q : PathId) : (s.setBooster b).path q = s.path q := rfl
@[simp] theorem State.district_setBooster (s : State) (b : BoosterRec) (e : DistrictId) : (s.setBooster b).district e = s.district e := rfl
@[simp] theorem State.districtSettings_setBooster (s : State) (b : BoosterRec) (e : DistrictId) : (s.setBooster b).districtSettings e = s.districtSettings e := rfl
@[simp] theorem State.meter_setBooster (s : State) (b : BoosterRec) (n : MeterId) : (s.setBooster b).meter n = s.meter n := rfl
@[simp] theorem State.now_setBooster (s : State) (b : BoosterRec) : (s.setBooster b).now = s.now := rfl
@[simp] theorem State.holder_markUnsaved (s : State) (k : HolderId) : (s.markUnsaved).holder k = s.holder k := rfl
@[simp] theorem State.holderSettings_markUnsaved (s : State) (k : HolderId) : (s.markUnsaved).holderSettings k = s.holderSettings k := rfl
@[simp] theorem State.valve_markUnsaved (s : State) (k : HolderId) (x : Side) : (s.markUnsaved).valve k x = s.valve k x := rfl
@[simp] theorem State.active_markUnsaved (s : State) (k : HolderId) : (s.markUnsaved).active k = s.active k := rfl
@[simp] theorem State.followOn_markUnsaved (s : State) (k : HolderId) : (s.markUnsaved).followOn k = s.followOn k := rfl
@[simp] theorem State.path_markUnsaved (s : State) (q : PathId) : (s.markUnsaved).path q = s.path q := rfl
@[simp] theorem State.district_markUnsaved (s : State) (e : DistrictId) : (s.markUnsaved).district e = s.district e := rfl
@[simp] theorem State.districtSettings_markUnsaved (s : State) (e : DistrictId) : (s.markUnsaved).districtSettings e = s.districtSettings e := rfl
@[simp] theorem State.meter_markUnsaved (s : State) (n : MeterId) : (s.markUnsaved).meter n = s.meter n := rfl
@[simp] theorem State.holder_markGathered (s : State) (k : HolderId) : (s.markGathered).holder k = s.holder k := rfl
@[simp] theorem State.holderSettings_markGathered (s : State) (k : HolderId) : (s.markGathered).holderSettings k = s.holderSettings k := rfl
@[simp] theorem State.valve_markGathered (s : State) (k : HolderId) (x : Side) : (s.markGathered).valve k x = s.valve k x := rfl
@[simp] theorem State.active_markGathered (s : State) (k : HolderId) : (s.markGathered).active k = s.active k := rfl
@[simp] theorem State.followOn_markGathered (s : State) (k : HolderId) : (s.markGathered).followOn k = s.followOn k := rfl
@[simp] theorem State.path_markGathered (s : State) (q : PathId) : (s.markGathered).path q = s.path q := rfl
@[simp] theorem State.district_markGathered (s : State) (e : DistrictId) : (s.markGathered).district e = s.district e := rfl
@[simp] theorem State.districtSettings_markGathered (s : State) (e : DistrictId) : (s.markGathered).districtSettings e = s.districtSettings e := rfl
@[simp] theorem State.now_markGathered (s : State) : (s.markGathered).now = s.now := rfl
@[simp] theorem State.holder_raise (s : State) (f : Flag) (k : HolderId) : (s.raise f).holder k = s.holder k := rfl
@[simp] theorem State.holderSettings_raise (s : State) (f : Flag) (k : HolderId) : (s.raise f).holderSettings k = s.holderSettings k := rfl
@[simp] theorem State.valve_raise (s : State) (f : Flag) (k : HolderId) (x : Side) : (s.raise f).valve k x = s.valve k x := rfl
@[simp] theorem State.active_raise (s : State) (f : Flag) (k : HolderId) : (s.raise f).active k = s.active k := rfl
@[simp] theorem State.followOn_raise (s : State) (f : Flag) (k : HolderId) : (s.raise f).followOn k = s.followOn k := rfl
@[simp] theorem State.path_raise (s : State) (f : Flag) (q : PathId) : (s.raise f).path q = s.path q := rfl
@[simp] theorem State.district_raise (s : State) (f : Flag) (e : DistrictId) : (s.raise f).district e = s.district e := rfl
@[simp] theorem State.districtSettings_raise (s : State) (f : Flag) (e : DistrictId) : (s.raise f).districtSettings e = s.districtSettings e := rfl
@[simp] theorem State.meter_raise (s : State) (f : Flag) (n : MeterId) : (s.raise f).meter n = s.meter n := rfl
@[simp] theorem State.now_raise (s : State) (f : Flag) : (s.raise f).now = s.now := rfl
@[simp] theorem State.holderSettings_keepStock (s : State) (h : HolderId) (stock : Nat) (k : HolderId) : (s.keepStock h stock).holderSettings k = s.holderSettings k := rfl
@[simp] theorem State.valve_keepStock (s : State) (h : HolderId) (stock : Nat) (k : HolderId) (x : Side) : (s.keepStock h stock).valve k x = s.valve k x := rfl
@[simp] theorem State.active_keepStock (s : State) (h : HolderId) (stock : Nat) (k : HolderId) : (s.keepStock h stock).active k = s.active k := rfl
@[simp] theorem State.followOn_keepStock (s : State) (h : HolderId) (stock : Nat) (k : HolderId) : (s.keepStock h stock).followOn k = s.followOn k := rfl
@[simp] theorem State.path_keepStock (s : State) (h : HolderId) (stock : Nat) (q : PathId) : (s.keepStock h stock).path q = s.path q := rfl
@[simp] theorem State.district_keepStock (s : State) (h : HolderId) (stock : Nat) (e : DistrictId) : (s.keepStock h stock).district e = s.district e := rfl
@[simp] theorem State.districtSettings_keepStock (s : State) (h : HolderId) (stock : Nat) (e : DistrictId) : (s.keepStock h stock).districtSettings e = s.districtSettings e := rfl
@[simp] theorem State.meter_keepStock (s : State) (h : HolderId) (stock : Nat) (n : MeterId) : (s.keepStock h stock).meter n = s.meter n := rfl
@[simp] theorem State.now_keepStock (s : State) (h : HolderId) (stock : Nat) : (s.keepStock h stock).now = s.now := rfl
@[simp] theorem State.holder_markServed (s : State) (p : PathId) (h : HolderId) (k : HolderId) : (s.markServed p h).holder k = s.holder k := rfl
@[simp] theorem State.holderSettings_markServed (s : State) (p : PathId) (h : HolderId) (k : HolderId) : (s.markServed p h).holderSettings k = s.holderSettings k := rfl
@[simp] theorem State.valve_markServed (s : State) (p : PathId) (h : HolderId) (k : HolderId) (x : Side) : (s.markServed p h).valve k x = s.valve k x := rfl
@[simp] theorem State.active_markServed (s : State) (p : PathId) (h : HolderId) (k : HolderId) : (s.markServed p h).active k = s.active k := rfl
@[simp] theorem State.followOn_markServed (s : State) (p : PathId) (h : HolderId) (k : HolderId) : (s.markServed p h).followOn k = s.followOn k := rfl
@[simp] theorem State.district_markServed (s : State) (p : PathId) (h : HolderId) (e : DistrictId) : (s.markServed p h).district e = s.district e := rfl
@[simp] theorem State.districtSettings_markServed (s : State) (p : PathId) (h : HolderId) (e : DistrictId) : (s.markServed p h).districtSettings e = s.districtSettings e := rfl
@[simp] theorem State.meter_markServed (s : State) (p : PathId) (h : HolderId) (n : MeterId) : (s.markServed p h).meter n = s.meter n := rfl
@[simp] theorem State.now_markServed (s : State) (p : PathId) (h : HolderId) : (s.markServed p h).now = s.now := rfl
@[simp] theorem State.holder_setClock (s : State) (c : ClockTime) (k : HolderId) : (s.setClock c).holder k = s.holder k := rfl
@[simp] theorem State.holderSettings_setClock (s : State) (c : ClockTime) (k : HolderId) : (s.setClock c).holderSettings k = s.holderSettings k := rfl
@[simp] theorem State.valve_setClock (s : State) (c : ClockTime) (k : HolderId) (x : Side) : (s.setClock c).valve k x = s.valve k x := rfl
@[simp] theorem State.active_setClock (s : State) (c : ClockTime) (k : HolderId) : (s.setClock c).active k = s.active k := rfl
@[simp] theorem State.followOn_setClock (s : State) (c : ClockTime) (k : HolderId) : (s.setClock c).followOn k = s.followOn k := rfl
@[simp] theorem State.path_setClock (s : State) (c : ClockTime) (q : PathId) : (s.setClock c).path q = s.path q := rfl
@[simp] theorem State.district_setClock (s : State) (c : ClockTime) (e : DistrictId) : (s.setClock c).district e = s.district e := rfl
@[simp] theorem State.districtSettings_setClock (s : State) (c : ClockTime) (e : DistrictId) : (s.setClock c).districtSettings e = s.districtSettings e := rfl
@[simp] theorem State.meter_setClock (s : State) (c : ClockTime) (n : MeterId) : (s.setClock c).meter n = s.meter n := rfl
@[simp] theorem State.holder_receive (s : State) (r : Receiver) (k : HolderId) : (s.receive r).holder k = s.holder k := rfl
@[simp] theorem State.holderSettings_receive (s : State) (r : Receiver) (k : HolderId) : (s.receive r).holderSettings k = s.holderSettings k := rfl
@[simp] theorem State.valve_receive (s : State) (r : Receiver) (k : HolderId) (x : Side) : (s.receive r).valve k x = s.valve k x := rfl
@[simp] theorem State.active_receive (s : State) (r : Receiver) (k : HolderId) : (s.receive r).active k = s.active k := rfl
@[simp] theorem State.followOn_receive (s : State) (r : Receiver) (k : HolderId) : (s.receive r).followOn k = s.followOn k := rfl
@[simp] theorem State.path_receive (s : State) (r : Receiver) (q : PathId) : (s.receive r).path q = s.path q := rfl
@[simp] theorem State.district_receive (s : State) (r : Receiver) (e : DistrictId) : (s.receive r).district e = s.district e := rfl
@[simp] theorem State.districtSettings_receive (s : State) (r : Receiver) (e : DistrictId) : (s.receive r).districtSettings e = s.districtSettings e := rfl
@[simp] theorem State.meter_receive (s : State) (r : Receiver) (n : MeterId) : (s.receive r).meter n = s.meter n := rfl
@[simp] theorem State.now_receive (s : State) (r : Receiver) : (s.receive r).now = s.now := rfl
@[simp] theorem State.holder_sendReply (s : State) (verb : Text) (args : List Text) (code : OutcomeCode) (data : List Text) (k : HolderId) : (s.sendReply verb args code data).holder k = s.holder k := rfl
@[simp] theorem State.holderSettings_sendReply (s : State) (verb : Text) (args : List Text) (code : OutcomeCode) (data : List Text) (k : HolderId) : (s.sendReply verb args code data).holderSettings k = s.holderSettings k := rfl
@[simp] theorem State.valve_sendReply (s : State) (verb : Text) (args : List Text) (code : OutcomeCode) (data : List Text) (k : HolderId) (x : Side) : (s.sendReply verb args code data).valve k x = s.valve k x := rfl
@[simp] theorem State.active_sendReply (s : State) (verb : Text) (args : List Text) (code : OutcomeCode) (data : List Text) (k : HolderId) : (s.sendReply verb args code data).active k = s.active k := rfl
@[simp] theorem State.followOn_sendReply (s : State) (verb : Text) (args : List Text) (code : OutcomeCode) (data : List Text) (k : HolderId) : (s.sendReply verb args code data).followOn k = s.followOn k := rfl
@[simp] theorem State.path_sendReply (s : State) (verb : Text) (args : List Text) (code : OutcomeCode) (data : List Text) (q : PathId) : (s.sendReply verb args code data).path q = s.path q := rfl
@[simp] theorem State.district_sendReply (s : State) (verb : Text) (args : List Text) (code : OutcomeCode) (data : List Text) (e : DistrictId) : (s.sendReply verb args code data).district e = s.district e := rfl
@[simp] theorem State.districtSettings_sendReply (s : State) (verb : Text) (args : List Text) (code : OutcomeCode) (data : List Text) (e : DistrictId) : (s.sendReply verb args code data).districtSettings e = s.districtSettings e := rfl
@[simp] theorem State.meter_sendReply (s : State) (verb : Text) (args : List Text) (code : OutcomeCode) (data : List Text) (n : MeterId) : (s.sendReply verb args code data).meter n = s.meter n := rfl
@[simp] theorem State.now_sendReply (s : State) (verb : Text) (args : List Text) (code : OutcomeCode) (data : List Text) : (s.sendReply verb args code data).now = s.now := rfl
@[simp] theorem State.holder_discard (s : State) (c : Discard) (k : HolderId) : (s.discard c).holder k = s.holder k := rfl
@[simp] theorem State.holderSettings_discard (s : State) (c : Discard) (k : HolderId) : (s.discard c).holderSettings k = s.holderSettings k := rfl
@[simp] theorem State.valve_discard (s : State) (c : Discard) (k : HolderId) (x : Side) : (s.discard c).valve k x = s.valve k x := rfl
@[simp] theorem State.active_discard (s : State) (c : Discard) (k : HolderId) : (s.discard c).active k = s.active k := rfl
@[simp] theorem State.followOn_discard (s : State) (c : Discard) (k : HolderId) : (s.discard c).followOn k = s.followOn k := rfl
@[simp] theorem State.path_discard (s : State) (c : Discard) (q : PathId) : (s.discard c).path q = s.path q := rfl
@[simp] theorem State.district_discard (s : State) (c : Discard) (e : DistrictId) : (s.discard c).district e = s.district e := rfl
@[simp] theorem State.districtSettings_discard (s : State) (c : Discard) (e : DistrictId) : (s.discard c).districtSettings e = s.districtSettings e := rfl
@[simp] theorem State.meter_discard (s : State) (c : Discard) (n : MeterId) : (s.discard c).meter n = s.meter n := rfl
@[simp] theorem State.now_discard (s : State) (c : Discard) : (s.discard c).now = s.now := rfl
@[simp] theorem State.holder_recordRefusal (s : State) (verb : Text) (code : OutcomeCode) (k : HolderId) : (s.recordRefusal verb code).holder k = s.holder k := rfl
@[simp] theorem State.holderSettings_recordRefusal (s : State) (verb : Text) (code : OutcomeCode) (k : HolderId) : (s.recordRefusal verb code).holderSettings k = s.holderSettings k := rfl
@[simp] theorem State.valve_recordRefusal (s : State) (verb : Text) (code : OutcomeCode) (k : HolderId) (x : Side) : (s.recordRefusal verb code).valve k x = s.valve k x := rfl
@[simp] theorem State.active_recordRefusal (s : State) (verb : Text) (code : OutcomeCode) (k : HolderId) : (s.recordRefusal verb code).active k = s.active k := rfl
@[simp] theorem State.followOn_recordRefusal (s : State) (verb : Text) (code : OutcomeCode) (k : HolderId) : (s.recordRefusal verb code).followOn k = s.followOn k := rfl
@[simp] theorem State.path_recordRefusal (s : State) (verb : Text) (code : OutcomeCode) (q : PathId) : (s.recordRefusal verb code).path q = s.path q := rfl
@[simp] theorem State.district_recordRefusal (s : State) (verb : Text) (code : OutcomeCode) (e : DistrictId) : (s.recordRefusal verb code).district e = s.district e := rfl
@[simp] theorem State.districtSettings_recordRefusal (s : State) (verb : Text) (code : OutcomeCode) (e : DistrictId) : (s.recordRefusal verb code).districtSettings e = s.districtSettings e := rfl
@[simp] theorem State.meter_recordRefusal (s : State) (verb : Text) (code : OutcomeCode) (n : MeterId) : (s.recordRefusal verb code).meter n = s.meter n := rfl
@[simp] theorem State.now_recordRefusal (s : State) (verb : Text) (code : OutcomeCode) : (s.recordRefusal verb code).now = s.now := rfl

/-! ### Reading the record written, and another of its kind -/

@[simp] theorem State.holder_setHolder_same (s : State) (h : HolderId) (r : HolderRec) : (s.setHolder h r).holder h = r :=
  HolderTable.get_set_same _ _ _

theorem State.holder_setHolder (s : State) (h k : HolderId) (r : HolderRec) :
    (s.setHolder h r).holder k = if k = h then r else s.holder k := HolderTable.get_set _ _ _ _

@[simp] theorem State.holderSettings_setHolderSettings_same (s : State) (h : HolderId) (c : HolderSettings) :
    (s.setHolderSettings h c).holderSettings h = c := HolderTable.get_set_same _ _ _

theorem State.holderSettings_setHolderSettings (s : State) (h k : HolderId) (c : HolderSettings) :
    (s.setHolderSettings h c).holderSettings k = if k = h then c else s.holderSettings k := HolderTable.get_set _ _ _ _

@[simp] theorem State.districtSettings_setHolderSettings (s : State) (h : HolderId) (c : HolderSettings) (d : DistrictId) :
    (s.setHolderSettings h c).districtSettings d = s.districtSettings d := rfl

@[simp] theorem State.holderSettings_setDistrictSettings (s : State) (d : DistrictId) (c : DistrictSettings) (h : HolderId) :
    (s.setDistrictSettings d c).holderSettings h = s.holderSettings h := rfl

/-- Every valve after a write: the one named has the record, its sister and every other holder's stand. -/
theorem State.valve_setValve (s : State) (h k : HolderId) (side x : Side) (v : ValveRec) :
    (s.setValve h side v).valve k x = if k = h ∧ x = side then v else s.valve k x := by
  simp only [State.valve, State.setValve, HolderTable.get_set]
  by_cases hk : k = h
  · subst hk
    by_cases hx : x = side <;> simp [Sides.get_set, hx]
  · simp [hk]

@[simp] theorem State.valve_setValve_same (s : State) (h : HolderId) (side : Side) (v : ValveRec) :
    (s.setValve h side v).valve h side = v := by rw [State.valve_setValve, if_pos ⟨rfl, rfl⟩]

@[simp] theorem State.valve_setValve_sister (s : State) (h : HolderId) (side : Side) (v : ValveRec) :
    (s.setValve h side v).valve h side.sister = s.valve h side.sister := by
  rw [State.valve_setValve, if_neg]; cases side <;> rintro ⟨-, q⟩ <;> cases q

theorem State.active_setSlots (s : State) (h k : HolderId) (r : Slots) :
    (s.setSlots h r).active k = if k = h then r.active else s.active k := by
  simp only [State.active, State.setSlots, HolderTable.get_set]; split <;> rfl

theorem State.followOn_setSlots (s : State) (h k : HolderId) (r : Slots) :
    (s.setSlots h r).followOn k = if k = h then r.followOn else s.followOn k := by
  simp only [State.followOn, State.setSlots, HolderTable.get_set]; split <;> rfl

@[simp] theorem State.active_setActive_same (s : State) (h : HolderId) (o : Option Order) : (s.setActive h o).active h = o := by
  simp [State.setActive, State.active_setSlots]

theorem State.active_setActive (s : State) (h k : HolderId) (o : Option Order) :
    (s.setActive h o).active k = if k = h then o else s.active k := State.active_setSlots _ _ _ _

@[simp] theorem State.followOn_setActive (s : State) (h k : HolderId) (o : Option Order) :
    (s.setActive h o).followOn k = s.followOn k := by
  rw [State.setActive, State.followOn_setSlots]; split <;> simp_all

@[simp] theorem State.followOn_setFollowOn_same (s : State) (h : HolderId) (o : Option Order) :
    (s.setFollowOn h o).followOn h = o := by simp [State.setFollowOn, State.followOn_setSlots]

@[simp] theorem State.active_setFollowOn (s : State) (h k : HolderId) (o : Option Order) :
    (s.setFollowOn h o).active k = s.active k := by
  rw [State.setFollowOn, State.active_setSlots]; split <;> simp_all

@[simp] theorem State.path_setPath_same (s : State) (p : PathId) (r : PathRec) : (s.setPath p r).path p = r :=
  PathTable.get_set_same _ _ _

theorem State.path_setPath (s : State) (p q : PathId) (r : PathRec) :
    (s.setPath p r).path q = if q = p then r else s.path q := PathTable.get_set _ _ _ _

@[simp] theorem State.path_setPathState_same (s : State) (p : PathId) (st : PathState) :
    (s.setPathState p st).path p = { s.path p with state := st } := PathTable.get_set_same _ _ _

theorem State.path_setPathState (s : State) (p q : PathId) (st : PathState) :
    (s.setPathState p st).path q = if q = p then { s.path p with state := st } else s.path q := PathTable.get_set _ _ _ _

@[simp] theorem State.district_setDistrict_same (s : State) (d : DistrictId) (r : DistrictRec) :
    (s.setDistrict d r).district d = r := DistrictTable.get_set_same _ _ _

theorem State.district_setDistrict (s : State) (d e : DistrictId) (r : DistrictRec) :
    (s.setDistrict d r).district e = if e = d then r else s.district e := DistrictTable.get_set _ _ _ _

@[simp] theorem State.districtSettings_setDistrictSettings_same (s : State) (d : DistrictId) (c : DistrictSettings) :
    (s.setDistrictSettings d c).districtSettings d = c := DistrictTable.get_set_same _ _ _

@[simp] theorem State.meter_setMeter_same (s : State) (m : MeterId) (r : MeterRec) : (s.setMeter m r).meter m = r :=
  MeterTable.get_set_same _ _ _

theorem State.meter_setMeter (s : State) (m n : MeterId) (r : MeterRec) :
    (s.setMeter m r).meter n = if n = m then r else s.meter n := MeterTable.get_set _ _ _ _

@[simp] theorem State.meter_markGathered (s : State) (m : MeterId) : s.markGathered.meter m = s.meter m := rfl

@[simp] theorem State.booster_setBooster (s : State) (b : BoosterRec) : (s.setBooster b).booster = b := rfl

@[simp] theorem State.now_markUnsaved (s : State) : s.markUnsaved.now = s.now := rfl

@[simp] theorem State.now_setClock (s : State) (c : ClockTime) : (s.setClock c).now = some c := rfl

@[simp] theorem State.raise_flags (s : State) (f : Flag) : (s.raise f).flags = s.flags.on f := rfl

@[simp] theorem State.receive_receiver (s : State) (r : Receiver) : (s.receive r).line.receiver = r := rfl

@[simp] theorem State.receive_gapRunning (s : State) (r : Receiver) : (s.receive r).line.gapRunning = decide (r ≠ .idle) := rfl

@[simp] theorem State.receive_reply (s : State) (r : Receiver) : (s.receive r).line.reply = s.line.reply := rfl

@[simp] theorem State.sendReply_receiver (s : State) (verb : Text) (args : List Text) (code : OutcomeCode) (data : List Text) :
    (s.sendReply verb args code data).line.receiver = s.line.receiver := rfl

end Sys2Proof.Machine
end

