-- ==== Sys2Proof/Laws/Ops.lean ====
section
/-!
SUPPORT. One lemma for each shared operation, saying once everything it can do, for the provers to cite in place of unfolding it.
-/
namespace Sys2Proof.Machine

/-! ### Numbers -/

theorem clampTo_eq (lo hi n : Nat) : clampTo lo hi n = max lo (min n hi) := rfl

/-- A value brought within a range lies in it, and one that lies there stands (0.5). -/
theorem clampTo_spec (lo hi n : Nat) (h : lo ≤ hi) :
    lo ≤ clampTo lo hi n ∧ clampTo lo hi n ≤ hi ∧ (clampTo lo hi n = n ↔ lo ≤ n ∧ n ≤ hi) := by
  rw [clampTo_eq]; omega

theorem clampInt_spec (lo hi i : Int) (h : lo ≤ hi) :
    lo ≤ clampInt lo hi i ∧ clampInt lo hi i ≤ hi ∧ (lo ≤ i → i ≤ hi → clampInt lo hi i = i) := by
  unfold clampInt; omega

/-- A reading is valid exactly with a value within its range, which it then is (R6, R17, R117, R118, R141). -/
theorem validReading_eq_some (lo hi : Nat) (x : Option Int) (v : Nat) :
    validReading lo hi x = some v ↔ x = some (v : Int) ∧ lo ≤ v ∧ v ≤ hi := by
  cases x with
  | none => simp [validReading]
  | some i =>
    simp only [validReading, Option.some.injEq]
    split
    · rw [Option.some.injEq]; omega
    · constructor
      · rintro ⟨⟩
      · rintro ⟨q, h1, h2⟩; omega

theorem validReading_eq_none (lo hi : Nat) (x : Option Int) :
    validReading lo hi x = none ↔ ∀ v : Nat, x = some (v : Int) → v < lo ∨ hi < v := by
  cases x with
  | none => simp [validReading]
  | some i =>
    simp only [validReading, Option.some.injEq]
    split
    · rename_i q
      simp only [false_iff, reduceCtorEq]
      intro h
      have := h i.toNat (by omega)
      omega
    · rename_i q
      refine ⟨fun _ v hv => by omega, fun _ => rfl⟩

theorem countUp_le (n : Nat) : countUp n ≤ Config.countLimit := by unfold countUp; omega

/-- Twice the floored quotient and its remainder give back the dividend: the shape behind R108 and R110. -/
theorem div_mod_identity (a b : Nat) : b * (a / b) + a % b = a := Nat.div_add_mod a b

/-! ### Doing an operation for each name -/

@[simp] theorem forEach_nil {α : Type} (f : α → State → State) (s : State) : forEach [] f s = s := rfl

@[simp] theorem forEach_cons {α : Type} (x : α) (xs : List α) (f : α → State → State) (s : State) :
    forEach (x :: xs) f s = forEach xs f (f x s) := rfl

/-- What each of the operations keeps, all of them together keep. -/
theorem forEach_keeps {α : Type} (P : State → Prop) (xs : List α) (f : α → State → State)
    (hf : ∀ x ∈ xs, ∀ t, P t → P (f x t)) (s : State) (hs : P s) : P (forEach xs f s) := by
  induction xs generalizing s with
  | nil => exact hs
  | cons x xs ih =>
    exact ih (fun y hy => hf y (List.mem_cons_of_mem _ hy)) _ (hf x (List.mem_cons_self ..) _ hs)

/-- A part of the state that no operation of a list touches stands after all of them. -/
theorem forEach_same {α β : Type} (g : State → β) (xs : List α) (f : α → State → State)
    (hf : ∀ x ∈ xs, ∀ t, g (f x t) = g t) (s : State) : g (forEach xs f s) = g s :=
  forEach_keeps (fun t => g t = g s) xs f (fun x hx t ht => (hf x hx t).trans ht) s rfl

/-! ### Flags (11.5) -/

/-- Setting one flag sets it and leaves every other (R187). -/
theorem StickyFlags.get_on (F : StickyFlags) (f g : Flag) : (F.on f).get g = (decide (g = f) || F.get g) := by
  cases f <;> cases g <;>
    simp only [StickyFlags.on, StickyFlags.get, reduceCtorEq, decide_false, Bool.false_or, Flag.holder.injEq, Flag.valve.injEq,
      Flag.order.injEq, Flag.path.injEq, Flag.district.injEq, Flag.meter.injEq, Flag.yard.injEq, decide_true, Bool.true_or,
      HolderTable.get_set, DistrictTable.get_set, MeterTable.get_set, PathTable.get_set]
  case holder.holder h f k g =>
    by_cases hk : k = h
    · subst hk; cases f <;> cases g <;> simp [HolderFlags.on, HolderFlags.get]
    · simp [hk]
  case valve.valve h x f k y g =>
    by_cases hk : k = h
    · subst hk
      by_cases hx : y = x
      · subst hx; cases f <;> cases g <;> simp [ValveFlags.on, ValveFlags.get]
      · simp [hx, Sides.get_set]
    · simp [hk]
  case order.order h f k g =>
    by_cases hk : k = h
    · subst hk; cases f <;> cases g <;> simp [OrderFlags.on, OrderFlags.get]
    · simp [hk]
  case path.path h f k g =>
    by_cases hk : k = h
    · subst hk; cases f <;> cases g <;> simp [PathFlags.on, PathFlags.get]
    · simp [hk]
  case district.district h f k g =>
    by_cases hk : k = h
    · subst hk; cases f <;> cases g <;> simp [DistrictFlags.on, DistrictFlags.get]
    · simp [hk]
  case meter.meter h f k g =>
    by_cases hk : k = h
    · subst hk; cases f <;> cases g <;> simp [MeterFlags.on, MeterFlags.get]
    · simp [hk]
  case yard.yard f g => cases f <;> cases g <;> simp [YardFlags.on, YardFlags.get]

@[simp] theorem State.raise_get_same (s : State) (f : Flag) : (s.raise f).flags.get f = true := by
  rw [State.raise_flags, StickyFlags.get_on]; simp

/-- A flag that stands set stays set when another is set (R187). -/
theorem State.raise_get_keeps (s : State) (f g : Flag) (h : s.flags.get g = true) : (s.raise f).flags.get g = true := by
  rw [State.raise_flags, StickyFlags.get_on, h, Bool.or_true]

/-! ### Words and lines (11.1) -/

theorem splitWords_noSpace (w : Text) (h : ' ' ∉ w) : splitWords w = [w] := by
  induction w with
  | nil => rfl
  | cons c cs ih =>
    have hc : c ≠ ' ' := fun q => h (q ▸ List.mem_cons_self ..)
    rw [splitWords, if_neg hc, ih fun q => h (List.mem_cons_of_mem _ q)]

theorem splitWords_append (w t : Text) (h : ' ' ∉ w) : splitWords (w ++ ' ' :: t) = w :: splitWords t := by
  induction w with
  | nil => simp [splitWords]
  | cons c cs ih =>
    have hc : c ≠ ' ' := fun q => h (q ▸ List.mem_cons_self ..)
    rw [List.cons_append, splitWords, if_neg hc, ih fun q => h (List.mem_cons_of_mem _ q)]

/-- Words without a space, joined by single spaces and split again, are the words (R184). -/
theorem splitWords_joinWords (ws : List Text) (hne : ws ≠ []) (h : ∀ w ∈ ws, ' ' ∉ w) : splitWords (joinWords ws) = ws := by
  induction ws with
  | nil => exact absurd rfl hne
  | cons w ws ih =>
    cases ws with
    | nil => exact splitWords_noSpace w (h w (List.mem_cons_self ..))
    | cons v vs =>
      rw [joinWords, splitWords_append _ _ (h w (List.mem_cons_self ..)),
        ih (List.cons_ne_nil _ _) fun x hx => h x (List.mem_cons_of_mem _ hx)]
      exact List.cons_ne_nil _ _

/-- A text split at its spaces and joined again is the text. -/
theorem joinWords_splitWords (t : Text) : joinWords (splitWords t) = t := by
  induction t with
  | nil => rfl
  | cons c cs ih =>
    rw [splitWords]
    split
    · rename_i hc
      cases hs : splitWords cs with
      | nil => rw [hs] at ih; rw [hc, ← ih]; cases cs <;> simp_all [splitWords, joinWords]
      | cons w ws => rw [hs] at ih; rw [joinWords, ih, hc]; rfl; exact List.cons_ne_nil _ _
    · cases hs : splitWords cs with
      | nil => rw [hs] at ih; simp [joinWords] at ih ⊢; exact ih
      | cons w ws =>
        rw [hs] at ih
        cases ws with
        | nil => simpa [joinWords] using ih
        | cons v vs => simpa [joinWords] using ih

/-- A word of word characters holds no space. -/
theorem noSpace_of_wordChar (w : Text) (h : w.all wordChar = true) : ' ' ∉ w := fun q => by
  have := List.all_eq_true.mp h ' ' q
  revert this; decide

/-! ### Taking a request (11.3) -/

/-- A listening line passes the request to its block with the receiver in IDLE (R184). -/
theorem State.takeRequest_listening {s : State} (hl : s.Listening) (verb : Text) (args : List Text) (isYard : Bool)
    (work : State → Answer) :
    s.takeRequest verb args isYard work = (s.receive .idle).reply verb args (work (s.receive .idle)) := by
  obtain ⟨h1, h2, h3, h4⟩ := hl
  simp [State.takeRequest, h1, State.busyFor, h2, h3, h4]

/-- While RESET is held low no request is taken (R178). -/
theorem State.takeRequest_resetHeld {s : State} (h : s.yard.resetHeld = true) (verb : Text) (args : List Text) (isYard : Bool)
    (work : State → Answer) : s.takeRequest verb args isYard work = s := by simp [State.takeRequest, h]

/-- A line that ends while a reply is being sent is a discard (R182). -/
theorem State.takeRequest_overlap {s : State} (h : s.yard.resetHeld = false) (hr : s.line.reply.isSome = true) (verb : Text)
    (args : List Text) (isYard : Bool) (work : State → Answer) :
    s.takeRequest verb args isYard work = (s.receive .idle).discard .overlap := by simp [State.takeRequest, h, hr]

/-- In the busy times a request is answered BY and passed to no block (R184). -/
theorem State.takeRequest_busy {s : State} (h : s.yard.resetHeld = false) (hr : s.line.reply = none) (isYard : Bool)
    (hb : s.busyFor isYard = true) (verb : Text) (args : List Text) (work : State → Answer) :
    s.takeRequest verb args isYard work = (s.receive .idle).sendReply verb args .busy [] := by
  have hb' : (s.receive .idle).busyFor isYard = true := hb
  simp [State.takeRequest, h, hr, hb']

/-- A refusing block leaves the refusal and its reply alone (R185). -/
theorem State.reply_refuse (s : State) (verb : Text) (args : List Text) (code : OutcomeCode) :
    (s.receive .idle).reply verb args (.refuse code) = s.refusedWith verb args code := rfl

theorem State.reply_done (s t : State) (verb : Text) (args : List Text) (clamped : Bool) (data : List Text) :
    s.reply verb args (.done clamped data t) = t.sendReply verb args (if clamped then .cl else .ok) data := rfl

/-- A request leaves the queue as its block's work leaves it. -/
theorem State.takeRequest_pending (s : State) (verb : Text) (args : List Text) (isYard : Bool) (work : State → Answer)
    (hw : ∀ t c data u, work t = .done c data u → u.pending = t.pending) :
    (s.takeRequest verb args isYard work).pending = s.pending := by
  simp only [State.takeRequest]
  split
  · rfl
  · split
    · rfl
    · split
      · rfl
      · unfold State.reply
        split
        · rfl
        · rename_i c data u hq
          exact (hw _ _ _ _ hq).trans rfl

/-- An event's work is done unless RESET is held low (R178). -/
theorem State.event_live {s : State} (h : s.yard.resetHeld = false) (work : State → State) : s.event work = work s := by
  simp [State.event, h]

theorem State.event_held {s : State} (h : s.yard.resetHeld = true) (work : State → State) : s.event work = s := by
  simp [State.event, h]

/-! ### Valves (chapter 2) -/

/-- A state entered gives the valve that state, drive and timer and leaves its contacts. -/
theorem ValveRec.enter_fields (v : ValveRec) (st : ValveState) (drive : Drive) (timer : Option Nat) (now : Option ClockTime) :
    (v.enter st drive timer now).state = st ∧ (v.enter st drive timer now).drive = drive ∧
    (v.enter st drive timer now).timer = timer ∧ (v.enter st drive timer now).openC = v.openC ∧
    (v.enter st drive timer now).shutC = v.shutC := ⟨rfl, rfl, rfl, rfl, rfl⟩

/-- A reversal toward OPEN: a commanded stroke, or its end at once (R24). -/
theorem ValveRec.redirectOpen_cases (v : ValveRec) (limit : Nat) (now : Option ClockTime) :
    (v.redirectOpen limit now).1.state = .opening .commanded ∧ (v.redirectOpen limit now).1.drive = .driveOpen ∧
      (v.redirectOpen limit now).1.timer = some limit ∨
    (v.redirectOpen limit now).1.state = .opened ∧ (v.redirectOpen limit now).1.drive = .rest ∧
      (v.redirectOpen limit now).1.timer = none := by
  simp only [ValveRec.redirectOpen]; split
  · exact .inr ⟨rfl, rfl, rfl⟩
  · exact .inl ⟨rfl, rfl, rfl⟩

/-- A reversal toward SHUT: a commanded stroke, or its end at once (R25). -/
theorem ValveRec.redirectClose_cases (v : ValveRec) (limit : Nat) (now : Option ClockTime) :
    (v.redirectClose limit now).1.state = .closing .commanded ∧ (v.redirectClose limit now).1.drive = .driveClose ∧
      (v.redirectClose limit now).1.timer = some limit ∨
    (v.redirectClose limit now).1.state = .closed ∧ (v.redirectClose limit now).1.drive = .rest ∧
      (v.redirectClose limit now).1.timer = none := by
  simp only [ValveRec.redirectClose]; split
  · exact .inr ⟨rfl, rfl, rfl⟩
  · exact .inl ⟨rfl, rfl, rfl⟩

/-- Everything an open command can do (R24). -/
theorem ValveRec.openCommand_cases (v : ValveRec) (limit : Nat) (now : Option ClockTime) (sister : Bool) :
    (v.openCommand limit now sister).1 = v ∨
    (sister = false ∧ ((v.openCommand limit now sister).1.state = .opening .commanded ∧
        (v.openCommand limit now sister).1.drive = .driveOpen ∧ (v.openCommand limit now sister).1.timer = some limit ∨
      (v.openCommand limit now sister).1.state = .opened ∧ (v.openCommand limit now sister).1.drive = .rest ∧
        (v.openCommand limit now sister).1.timer = none)) := by
  cases sister
  · simp only [ValveRec.openCommand, Bool.false_eq_true, if_false]
    split
    · exact .inr ⟨trivial, .inl ⟨rfl, rfl, rfl⟩⟩
    · exact .inl rfl
    · exact .inr ⟨trivial, v.redirectOpen_cases _ _⟩
    · exact .inr ⟨trivial, v.redirectOpen_cases _ _⟩
    · exact .inl rfl
    · exact .inl rfl
    · exact .inl rfl
  · exact .inl rfl

/-- Everything a close command can do (R25). -/
theorem ValveRec.closeCommand_cases (v : ValveRec) (limit : Nat) (now : Option ClockTime) :
    (v.closeCommand limit now).1 = v ∨
    ((v.closeCommand limit now).1.state = .closing .commanded ∧ (v.closeCommand limit now).1.drive = .driveClose ∧
        (v.closeCommand limit now).1.timer = some limit ∨
      (v.closeCommand limit now).1.state = .closed ∧ (v.closeCommand limit now).1.drive = .rest ∧
        (v.closeCommand limit now).1.timer = none) := by
  unfold ValveRec.closeCommand
  split <;> first
    | exact .inl rfl
    | exact .inr (v.redirectClose_cases _ _)
    | exact .inr (.inl ⟨rfl, rfl, rfl⟩)

/-- A close command leaves the recorded contacts (R25). -/
theorem ValveRec.closeCommand_contacts (v : ValveRec) (limit : Nat) (now : Option ClockTime) :
    (v.closeCommand limit now).1.openC = v.openC ∧ (v.closeCommand limit now).1.shutC = v.shutC := by
  unfold ValveRec.closeCommand
  split <;> first
    | exact ⟨rfl, rfl⟩
    | (simp only [ValveRec.redirectClose]; split <;> exact ⟨rfl, rfl⟩)

/-! ### Orders (chapter 3) -/

/-- The finished list after an append (R57). -/
theorem State.appendFinished_list (s : State) (r : Finished) :
    (s.appendFinished r).finished =
      (if s.finished.length < Config.finishedCapacity then s.finished else s.finished.tail) ++ [r] := by
  unfold State.appendFinished; split <;> rfl

theorem State.appendFinished_length (s : State) (r : Finished) (h : s.finished.length ≤ Config.finishedCapacity) :
    (s.appendFinished r).finished.length ≤ Config.finishedCapacity := by
  rw [State.appendFinished_list]; split
  · simp; omega
  · simp [List.length_tail]; unfold Config.finishedCapacity at *; omega

/-- An append touches the finished list and the flags alone. -/
theorem State.appendFinished_rest (s : State) (r : Finished) :
    ∃ l F, s.appendFinished r = { s with finished := l, flags := F } := by
  unfold State.appendFinished; split
  · exact ⟨_, s.flags, rfl⟩
  · exact ⟨_, _, rfl⟩

/-- A promotion moves the follow-on up, READY, with its flag, and touches nothing else (R59). -/
theorem State.promote_cases (s : State) (h : HolderId) :
    (s.followOn h = none ∧ s.promote h = s) ∨
    ∃ f, s.followOn h = some f ∧
      s.promote h = (s.setSlots h ⟨some { f with state := .ready }, none⟩).raise (.order h .promoted) := by
  unfold State.promote
  cases hf : s.followOn h with
  | none => exact .inl ⟨rfl, rfl⟩
  | some f => exact .inr ⟨f, rfl, rfl⟩

/-- A movement keeps moved, to-go, overrun and quantity in their relation (R46). -/
theorem Transfer.move_relation (t : Transfer) (m : Nat) (h : t.moved + t.toGo = t.quantity + t.overrun) :
    (t.move m).moved + (t.move m).toGo = (t.move m).quantity + (t.move m).overrun := by
  unfold Transfer.move; split <;> simp <;> omega

/-! ### Street pressure (chapter 8) -/

/-- The clamp at once: nothing, or the loading brought to the supply limit with its flag (R148). -/
theorem State.clampAtOnce_cases (s : State) (d : DistrictId) :
    (s.clampAtOnce d = s ∧ ∀ l, s.supplyLimit d = some l → (s.district d).loading ≤ l) ∨
    ∃ l, s.supplyLimit d = some l ∧ l < (s.district d).loading ∧
      s.clampAtOnce d = (s.setDistrict d { s.district d with loading := l }).raise (.district d .clamped) := by
  unfold State.clampAtOnce
  cases hl : s.supplyLimit d with
  | none => left; simp
  | some l =>
    by_cases hc : l < (s.district d).loading
    · right; exact ⟨l, rfl, hc, by simp [hc]⟩
    · left; exact ⟨by simp [hc], by rintro k ⟨⟩; omega⟩

/-- The clamp at once touches one loading and the flags alone. -/
theorem State.clampAtOnce_rest (s : State) (d : DistrictId) :
    ∃ D F, s.clampAtOnce d = { s with districts := D, flags := F } := by
  rcases s.clampAtOnce_cases d with ⟨h, -⟩ | ⟨l, -, -, h⟩
  · exact ⟨s.districts, s.flags, h⟩
  · exact ⟨_, _, h⟩

/-- A notice touches one district's record and the flags alone (R151). -/
theorem State.notice_rest (s : State) (n : Notice) (d : DistrictId) :
    ∃ D F, s.notice n d = { s with districts := D, flags := F } := by
  have base : ∃ D F, s = { s with districts := D, flags := F } := ⟨s.districts, s.flags, rfl⟩
  have set (r : DistrictRec) : ∃ D F, s.setDistrict d r = { s with districts := D, flags := F } := ⟨_, s.flags, rfl⟩
  have clamp (r : DistrictRec) : ∃ D F, (s.setDistrict d r).clampAtOnce d = { s with districts := D, flags := F } := by
    obtain ⟨D, F, h⟩ := (s.setDistrict d r).clampAtOnce_rest d
    exact ⟨D, F, h⟩
  unfold State.notice
  split
  · exact set _
  · exact clamp _
  · exact clamp _
  · exact clamp _
  · exact set _
  · exact set _
  · split
    · exact s.clampAtOnce_rest d
    · exact base
  · exact base

/-- Entry to the booster's FAULT touches its record and the flags alone (R163). -/
theorem State.boosterFaulted_rest (s : State) (c : BoosterFault) :
    ∃ B F, s.boosterFaulted c = { s with booster := B, flags := F } := ⟨_, _, rfl⟩

/-- What a disable or HOLD entry leaves of the booster record: nothing that its notices do to the districts changes it (R164). -/
theorem State.booster_dropBooster (s : State) : (s.dropBooster).booster = s.booster.dropped := by
  have rest (n : Notice) (d : DistrictId) (t : State) : (t.notice n d).booster = t.booster := by
    obtain ⟨D, F, h⟩ := t.notice_rest n d
    rw [h]
  have restTo (n : Notice) (d : Option DistrictId) (t : State) : (t.noticeTo n d).booster = t.booster := by
    cases d
    · rfl
    · exact rest n _ t
  rw [State.dropBooster, forEach_same State.booster _ _ (fun d _ t => rest _ d t), BoosterRec.dropped]
  split <;> simp_all [Config.runDownSeconds]

/-- A loading brought down to the supply limit is not above it, and stands where there is no supply or where it is not above (R148). -/
theorem State.limited_spec (s : State) (d : DistrictId) (n : Nat) :
    s.limited d n ≤ n ∧ (∀ l, s.supplyLimit d = some l → s.limited d n ≤ l) ∧
    ((∀ l, s.supplyLimit d = some l → n ≤ l) → s.limited d n = n) := by
  unfold State.limited
  cases s.supplyLimit d with
  | none => exact ⟨Nat.le_refl _, fun l h => (by cases h), fun _ => rfl⟩
  | some l => exact ⟨Nat.min_le_right _ _, fun m h => (by cases h; exact Nat.min_le_left _ _), fun h => Nat.min_eq_right (h l rfl)⟩

/-! ### Stocks (R18) -/

/-- A stock taken writes one last stock or nothing (R18). -/
theorem State.takeStock_cases (s : State) (h : HolderId) :
    (s.stock h = none ∧ s.takeStock h = s) ∨ ∃ k, s.stock h = some k ∧ s.takeStock h = s.keepStock h k := by
  unfold State.takeStock
  cases hk : s.stock h with
  | none => exact .inl ⟨rfl, rfl⟩
  | some k => exact .inr ⟨k, rfl, rfl⟩

/-- A last stock that is written changes no stock that can be had. -/
theorem State.stock_keepStock (s : State) (h k : HolderId) (n : Nat) : (s.keepStock h n).stock k = s.stock k := by
  unfold State.stock State.keepStock
  simp only [State.holder_setHolder, State.holderSettings_setHolder]
  by_cases hk : k = h
  · subst hk; simp; rfl
  · simp [hk]; rfl

/-! ### Choosing (R69) -/

/-- The search order of a path holds every holder. -/
theorem mem_searchOrder (mode : Priority) (last : Option HolderId) (h : HolderId) : h ∈ searchOrder mode last := by
  unfold searchOrder
  split
  · exact HolderId.mem_rotation _ _
  · exact HolderId.mem_all _

end Sys2Proof.Machine
end

