-- ==== Sys2Proof/Laws/Frame.lean ====
section
/-!
SUPPORT. What the field side never touches: no operation of the valve drives, order slots, path arbiters, holder table, governors or
booster changes a setting, the store, the supervisor's record, an account, the line, or the commands that wait.
-/
namespace Sys2Proof.Machine

theorem State.outer_eq_iff (s t : State) : s.outer = t.outer ↔
    s.settings = t.settings ∧ s.store = t.store ∧ s.yard = t.yard ∧ s.accounts = t.accounts ∧ s.line = t.line ∧
    s.pending = t.pending := by simp [State.outer]

@[simp] theorem State.outer_ite (c : Prop) [Decidable c] (s t : State) :
    (if c then s else t).outer = if c then s.outer else t.outer := apply_ite State.outer c s t

theorem forEach_outer {α : Type} (xs : List α) (f : α → State → State) (hf : ∀ x t, (f x t).outer = t.outer) (s : State) :
    (forEach xs f s).outer = s.outer := forEach_same State.outer xs f (fun x _ t => hf x t) s

@[simp] theorem State.outer_setHolder (s : State) (h : HolderId) (r : HolderRec) : (s.setHolder h r).outer = s.outer := rfl
@[simp] theorem State.outer_setValve (s : State) (h : HolderId) (side : Side) (v : ValveRec) : (s.setValve h side v).outer = s.outer := rfl
@[simp] theorem State.outer_setSlots (s : State) (h : HolderId) (r : Slots) : (s.setSlots h r).outer = s.outer := rfl
@[simp] theorem State.outer_setActive (s : State) (h : HolderId) (o : Option Order) : (s.setActive h o).outer = s.outer := rfl
@[simp] theorem State.outer_setFollowOn (s : State) (h : HolderId) (o : Option Order) : (s.setFollowOn h o).outer = s.outer := rfl
@[simp] theorem State.outer_setPath (s : State) (p : PathId) (r : PathRec) : (s.setPath p r).outer = s.outer := rfl
@[simp] theorem State.outer_setPathState (s : State) (p : PathId) (st : PathState) : (s.setPathState p st).outer = s.outer := rfl
@[simp] theorem State.outer_setDistrict (s : State) (d : DistrictId) (r : DistrictRec) : (s.setDistrict d r).outer = s.outer := rfl
@[simp] theorem State.outer_setBooster (s : State) (b : BoosterRec) : (s.setBooster b).outer = s.outer := rfl
@[simp] theorem State.outer_raise (s : State) (f : Flag) : (s.raise f).outer = s.outer := rfl
@[simp] theorem State.outer_keepStock (s : State) (h : HolderId) (k : Nat) : (s.keepStock h k).outer = s.outer := rfl
@[simp] theorem State.outer_markServed (s : State) (p : PathId) (h : HolderId) : (s.markServed p h).outer = s.outer := rfl
@[simp] theorem State.outer_markUnserved (s : State) (p : PathId) : (s.markUnserved p).outer = s.outer := rfl
@[simp] theorem State.outer_boosterFaulted (s : State) (c : BoosterFault) : (s.boosterFaulted c).outer = s.outer := rfl
@[simp] theorem State.outer_openValve (s : State) (h : HolderId) (side : Side) : (s.openValve h side).outer = s.outer := rfl

@[simp] theorem State.outer_clampAtOnce (s : State) (d : DistrictId) : (s.clampAtOnce d).outer = s.outer := by
  simp only [State.clampAtOnce]
  repeat' split
  all_goals simp

@[simp] theorem State.outer_nominalChanged (s : State) (h : HolderId) : (s.nominalChanged h).outer = s.outer := by
  rw [State.nominalChanged]
  refine forEach_outer _ _ (fun d t => ?_) s
  split <;> simp

@[simp] theorem State.outer_loseBoost (s : State) (d : DistrictId) : (s.loseBoost d).outer = s.outer := by
  simp only [State.loseBoost]
  all_goals simp

@[simp] theorem State.outer_notice (s : State) (n : Notice) (d : DistrictId) : (s.notice n d).outer = s.outer := by
  simp only [State.notice]
  repeat' split
  all_goals simp

@[simp] theorem State.outer_beginBoost (s : State) (d : DistrictId) : (s.beginBoost d).outer = s.outer := by
  simp only [State.beginBoost]
  all_goals simp

@[simp] theorem State.outer_passOn (s : State) : (s.passOn).outer = s.outer := by
  simp only [State.passOn]
  repeat' split
  all_goals simp

@[simp] theorem State.outer_runUpEnds (s : State) : (s.runUpEnds).outer = s.outer := by
  simp only [State.runUpEnds]
  repeat' split
  all_goals simp

@[simp] theorem State.outer_grantHead (s : State) : (s.grantHead).outer = s.outer := by
  simp only [State.grantHead]
  repeat' split
  all_goals simp

@[simp] theorem State.outer_requestBooster (s : State) (d : DistrictId) : (s.requestBooster d).outer = s.outer := by
  simp only [State.requestBooster]
  repeat' split
  all_goals simp

@[simp] theorem State.outer_withdrawBooster (s : State) (d : DistrictId) : (s.withdrawBooster d).outer = s.outer := by
  simp only [State.withdrawBooster]
  repeat' split
  all_goals simp

@[simp] theorem State.outer_noticeTo (s : State) (n : Notice) (d : Option DistrictId) : (s.noticeTo n d).outer = s.outer := by
  simp only [State.noticeTo]
  repeat' split
  all_goals simp

@[simp] theorem State.outer_dropBooster (s : State) : (s.dropBooster).outer = s.outer := by
  rw [State.dropBooster]
  rw [forEach_outer _ _ (fun d t => t.outer_notice _ d)]
  split <;> simp

@[simp] theorem State.outer_unsupplied (s : State) (d : DistrictId) : (s.unsupplied d).outer = s.outer := by
  simp only [State.unsupplied]
  repeat' split
  all_goals simp

@[simp] theorem State.outer_reportPath (s : State) (p : PathId) : (s.reportPath p).outer = s.outer := by
  simp only [State.reportPath]
  repeat' split
  all_goals simp

@[simp] theorem State.outer_countDelta (s : State) (h : HolderId) (delta : Int) : (s.countDelta h delta).outer = s.outer := by
  simp only [State.countDelta]
  repeat' split
  all_goals simp

@[simp] theorem State.outer_appendFinished (s : State) (r : Finished) : (s.appendFinished r).outer = s.outer := by
  obtain ⟨l, F, h⟩ := s.appendFinished_rest r
  rw [h]; rfl

@[simp] theorem State.outer_promote (s : State) (h : HolderId) : (s.promote h).outer = s.outer := by
  simp only [State.promote]
  repeat' split
  all_goals simp

@[simp] theorem State.outer_closeOrder (s : State) (c : Cause) (k : Option Nat) (l : Option Int) (h : HolderId) : (s.closeOrder c k l h).outer = s.outer := by
  simp only [State.closeOrder]
  repeat' split
  all_goals simp

@[simp] theorem State.outer_provingLookOnce (s : State) (h : HolderId) : (s.provingLookOnce h).outer = s.outer := by
  simp only [State.provingLookOnce]
  repeat' split
  all_goals simp

@[simp] theorem State.outer_provingLook (s : State) (h : HolderId) : (s.provingLook h).outer = s.outer := by
  simp only [State.provingLook]
  all_goals simp

@[simp] theorem State.outer_endActive (s : State) (c : Cause) (h : HolderId) : (s.endActive c h).outer = s.outer := by
  simp only [State.endActive]
  all_goals simp

@[simp] theorem State.outer_provingOutcome (s : State) (h : HolderId) : (s.provingOutcome h).outer = s.outer := by
  simp only [State.provingOutcome]
  repeat' split
  all_goals simp

@[simp] theorem State.outer_provingBroken (s : State) (h : HolderId) : (s.provingBroken h).outer = s.outer := by
  simp only [State.provingBroken]
  repeat' split
  all_goals simp

@[simp] theorem State.outer_startOrder (s : State) (h : HolderId) : (s.startOrder h).outer = s.outer := by
  simp only [State.startOrder]
  repeat' split
  all_goals simp

@[simp] theorem State.outer_runOrder (s : State) (h : HolderId) : (s.runOrder h).outer = s.outer := by
  simp only [State.runOrder]
  repeat' split
  all_goals simp

@[simp] theorem State.outer_updateTransfer (s : State) (f : Transfer → Transfer) (h : HolderId) : (s.updateTransfer f h).outer = s.outer := by
  simp only [State.updateTransfer]
  repeat' split
  all_goals simp

@[simp] theorem State.outer_endSecond (s : State) (h : HolderId) (side : Side) : (s.endSecond h side).outer = s.outer := by
  simp only [State.endSecond]
  repeat' split
  all_goals simp

@[simp] theorem State.outer_closedConfirmed (s : State) (h : HolderId) (side : Side) : (s.closedConfirmed h side).outer = s.outer := by
  simp only [State.closedConfirmed]
  all_goals simp

@[simp] theorem State.outer_closeValve (s : State) (h : HolderId) (side : Side) : (s.closeValve h side).outer = s.outer := by
  simp only [State.closeValve]
  repeat' split
  all_goals simp

@[simp] theorem State.outer_startOnEmpty (s : State) (p : PathId) (h : HolderId) : (s.startOnEmpty p h).outer = s.outer := by
  simp only [State.startOnEmpty]
  all_goals simp

@[simp] theorem State.outer_markOutgoing (s : State) (h : HolderId) : (s.markOutgoing h).outer = s.outer := by
  simp only [State.markOutgoing]
  repeat' split
  all_goals simp

@[simp] theorem State.outer_beginChangeover (s : State) (p : PathId) (a b : HolderId) (c : Option EndDue) : (s.beginChangeover p a b c).outer = s.outer := by
  simp only [State.beginChangeover]
  all_goals simp

@[simp] theorem State.outer_emptyUnserved (s : State) (p : PathId) (h : HolderId) : (s.emptyUnserved p h).outer = s.outer := by
  simp only [State.emptyUnserved]
  all_goals simp

@[simp] theorem State.outer_dropSecond (s : State) (p : PathId) (h : HolderId) : (s.dropSecond p h).outer = s.outer := by
  simp only [State.dropSecond]
  repeat' split
  all_goals simp

@[simp] theorem State.outer_startFailed (s : State) (p : PathId) (h : HolderId) : (s.startFailed p h).outer = s.outer := by
  simp only [State.startFailed]
  all_goals simp

@[simp] theorem State.outer_endOutgoing (s : State) (c : Cause) (h : HolderId) : (s.endOutgoing c h).outer = s.outer := by
  simp only [State.endOutgoing]
  repeat' split
  all_goals simp

@[simp] theorem State.outer_abandon (s : State) (p : PathId) (h : HolderId) (c : Option EndDue) : (s.abandon p h c).outer = s.outer := by
  simp only [State.abandon]
  repeat' split
  all_goals simp

@[simp] theorem State.outer_failSuccessor (s : State) (p : PathId) (h : HolderId) : (s.failSuccessor p h).outer = s.outer := by
  simp only [State.failSuccessor]
  repeat' split
  all_goals simp

@[simp] theorem State.outer_outgoingLost (s : State) (p : PathId) (h : HolderId) : (s.outgoingLost p h).outer = s.outer := by
  simp only [State.outgoingLost]
  repeat' split
  all_goals simp

@[simp] theorem State.outer_endAtOnce (s : State) (d : EndDue) (p : PathId) (h : HolderId) : (s.endAtOnce d p h).outer = s.outer := by
  simp only [State.endAtOnce]
  repeat' split
  all_goals simp

@[simp] theorem State.outer_handOverOrEnd (s : State) (d : EndDue) (p : PathId) (h : HolderId) : (s.handOverOrEnd d p h).outer = s.outer := by
  simp only [State.handOverOrEnd]
  repeat' split
  all_goals simp

@[simp] theorem State.outer_writeCause (s : State) (d : EndDue) (p : PathId) (h : HolderId) : (s.writeCause d p h).outer = s.outer := by
  simp only [State.writeCause]
  repeat' split
  all_goals simp

@[simp] theorem State.outer_forceEnd (s : State) (d : EndDue) (h : HolderId) : (s.forceEnd d h).outer = s.outer := by
  simp only [State.forceEnd]
  repeat' split
  all_goals simp

@[simp] theorem State.outer_stopCheck (s : State) (h : HolderId) : (s.stopCheck h).outer = s.outer := by
  simp only [State.stopCheck]
  repeat' split
  all_goals simp

@[simp] theorem State.outer_continueOrder (s : State) (p : PathId) (h : HolderId) : (s.continueOrder p h).outer = s.outer := by
  simp only [State.continueOrder]
  all_goals simp

@[simp] theorem State.outer_takeOver (s : State) (p : PathId) (h : HolderId) : (s.takeOver p h).outer = s.outer := by
  simp only [State.takeOver]
  all_goals simp

@[simp] theorem State.outer_putEnded (s : State) (h : HolderId) : (s.putEnded h).outer = s.outer := by
  simp only [State.putEnded]
  repeat' split
  all_goals simp

@[simp] theorem State.outer_choiceOn (s : State) (p : PathId) : (s.choiceOn p).outer = s.outer := by
  simp only [State.choiceOn]
  repeat' split
  all_goals simp

@[simp] theorem State.outer_choices (s : State) : (s.choices).outer = s.outer := by
  rw [State.choices]
  exact forEach_outer _ _ (fun p t => t.outer_choiceOn p) s

@[simp] theorem State.outer_adoptedTrigger (s : State) (d : EndDue) (h : HolderId) (side : Side) : (s.adoptedTrigger d h side).outer = s.outer := by
  simp only [State.adoptedTrigger]
  repeat' split
  all_goals simp

@[simp] theorem State.outer_serviceOutOn (s : State) (p : PathId) (h : HolderId) : (s.serviceOutOn p h).outer = s.outer := by
  simp only [State.serviceOutOn]
  repeat' split
  all_goals simp

@[simp] theorem State.outer_serviceOut (s : State) (h : HolderId) : (s.serviceOut h).outer = s.outer := by
  rw [State.serviceOut, State.outer_closeValve, State.outer_closeValve]
  exact forEach_outer _ _ (fun p t => t.outer_serviceOutOn p h) s

@[simp] theorem State.outer_endFirst (s : State) (p : PathId) (h : HolderId) : (s.endFirst p h).outer = s.outer := by
  simp only [State.endFirst]
  repeat' split
  all_goals simp

@[simp] theorem State.outer_openConfirmed (s : State) (h : HolderId) (side : Side) : (s.openConfirmed h side).outer = s.outer := by
  simp only [State.openConfirmed]
  repeat' split
  all_goals simp

@[simp] theorem State.outer_endForValve (s : State) (h : HolderId) (side : Side) (b : Bool) : (s.endForValve h side b).outer = s.outer := by
  simp only [State.endForValve]
  repeat' split
  all_goals simp

@[simp] theorem State.outer_valveLostOn (s : State) (p : PathId) (h : HolderId) (b : Bool) : (s.valveLostOn p h b).outer = s.outer := by
  simp only [State.valveLostOn]
  repeat' split
  all_goals simp

@[simp] theorem State.outer_valveFaulted (s : State) (h : HolderId) (side : Side) (b : Bool) : (s.valveFaulted h side b).outer = s.outer := by
  simp only [State.valveFaulted]
  repeat' split
  all_goals simp

@[simp] theorem State.outer_movedShut (s : State) (h : HolderId) (side : Side) : (s.movedShut h side).outer = s.outer := by
  simp only [State.movedShut]
  repeat' split
  all_goals simp

@[simp] theorem State.outer_movedOpen (s : State) (h : HolderId) (side : Side) : (s.movedOpen h side).outer = s.outer := by
  simp only [State.movedOpen]
  repeat' split
  all_goals simp

@[simp] theorem State.outer_foundOpen (s : State) (h : HolderId) (side : Side) : (s.foundOpen h side).outer = s.outer := by
  simp only [State.foundOpen]
  repeat' split
  all_goals simp

@[simp] theorem State.outer_returnedOpen (s : State) (h : HolderId) (side : Side) : (s.returnedOpen h side).outer = s.outer := by
  simp only [State.returnedOpen]
  repeat' split
  all_goals simp

@[simp] theorem State.outer_valveEvent (s : State) (e : ValveEvent) (h : HolderId) (side : Side) : (s.valveEvent e h side).outer = s.outer := by
  cases e <;> simp [State.valveEvent]

@[simp] theorem State.outer_takeValve (s : State) (r : ValveRec × ValveEvent) (h : HolderId) (side : Side) : (s.takeValve r h side).outer = s.outer := by
  rcases r with ⟨v, e⟩
  cases e <;> simp [State.takeValve, ValveEvent.flags]

@[simp] theorem State.outer_endStarting (s : State) (c : Cause) (h : HolderId) : (s.endStarting c h).outer = s.outer := by
  simp only [State.endStarting]
  repeat' split
  all_goals simp

@[simp] theorem State.outer_heightLost (s : State) (h : HolderId) : (s.heightLost h).outer = s.outer := by
  simp only [State.heightLost]
  repeat' split
  all_goals simp

@[simp] theorem State.outer_holdOrder (s : State) (h : HolderId) : (s.holdOrder h).outer = s.outer := by
  simp only [State.holdOrder]
  repeat' split
  all_goals simp

@[simp] theorem State.outer_holdValve (s : State) (h : HolderId) (side : Side) : (s.holdValve h side).outer = s.outer := by
  simp only [State.holdValve]
  repeat' split
  all_goals simp

@[simp] theorem State.outer_holdPath (s : State) (p : PathId) : (s.holdPath p).outer = s.outer := by
  simp only [State.holdPath]
  all_goals simp

@[simp] theorem State.outer_shapeChanged (s : State) (h : HolderId) (old : HolderRec) : (s.shapeChanged h old).outer = s.outer := by
  simp only [State.shapeChanged]
  repeat' split
  all_goals simp

@[simp] theorem State.outer_enterTop (s : State) (h : HolderId) : (s.enterTop h).outer = s.outer := by
  simp only [State.enterTop]
  repeat' split
  all_goals simp

@[simp] theorem State.outer_enterLow (s : State) (h : HolderId) : (s.enterLow h).outer = s.outer := by
  simp only [State.enterLow]
  repeat' split
  all_goals simp

@[simp] theorem State.outer_evaluateStops (s : State) (h : HolderId) : (s.evaluateStops h).outer = s.outer := by
  simp only [State.evaluateStops]
  repeat' split
  all_goals simp

@[simp] theorem State.outer_addTrailing (s : State) (h : HolderId) (delta : Int) : (s.addTrailing h delta).outer = s.outer := by
  simp only [State.addTrailing]
  all_goals simp

@[simp] theorem State.outer_answerYield (s : State) (h : HolderId) (b : Option Order) : (s.answerYield h b).outer = s.outer := by
  simp only [State.answerYield]
  repeat' split
  all_goals simp

@[simp] theorem State.outer_routeDelta (s : State) (h : HolderId) (delta : Int) : (s.routeDelta h delta).outer = s.outer := by
  simp only [State.routeDelta]
  repeat' split
  all_goals simp

@[simp] theorem State.outer_takeHeight (s : State) (h : HolderId) (g : List Lift) (v : Nat) : (s.takeHeight h g v).outer = s.outer := by
  simp only [State.takeHeight]
  repeat' split
  all_goals simp

@[simp] theorem State.outer_loseHeight (s : State) (h : HolderId) : (s.loseHeight h).outer = s.outer := by
  simp only [State.loseHeight]
  repeat' split
  all_goals simp

/-- HOLD entry changes the mode alone of the station side (R171). -/
theorem State.outer_holdEntry (s : State) :
    s.holdEntry.outer = ({ s with yard := { s.yard with mode := .hold } } : State).outer := by
  rw [State.holdEntry, forEach_outer _ _ (fun h t => t.outer_provingLook h), State.outer_dropBooster,
    forEach_outer _ _ (fun h t => by simp), forEach_outer _ _ (fun p t => t.outer_holdPath p),
    forEach_outer _ _ (fun h t => t.outer_holdOrder h)]
  rfl

/-- The look for survey end changes the mode alone of the station side, from SURVEY to RUN (R170). -/
theorem State.outer_settle (s : State) :
    s.settle.outer = s.outer ∨
    (s.yard.mode = .survey ∧ s.settle.outer = ({ s with yard := { s.yard with mode := .run } } : State).outer) := by
  rw [State.settle, State.outer_choices]
  unfold State.surveyLook
  split
  · rename_i h; exact .inr ⟨h.1, rfl⟩
  · exact .inl rfl

end Sys2Proof.Machine
end

