-- ==== Sys2Proof/Tests/Slice0.lean ====
section
/-!
SUPPORT. Tests: figures that the manual works out, commands against the small states its worked sequences describe, ill-formed terms that
WellFormed refuses, and for each statement with hypotheses a state and operands that meet them.
-/
namespace Sys2Proof.Tests

open Sys2Proof.Machine

set_option Elab.async false

/-! ### Helpers -/

/-- The state a step answers. -/
def after : Result → State
  | .next s => s
  | .fault _ => State.reset
  | .refused _ => State.reset

/-- The body of the reply that a step begins: the line before its star. -/
def body (r : Result) : Text :=
  match (after r).line.reply with
  | some r => r.body
  | none => []

/-- H3 of 1.13: three lifts of 300 in. -/
def lifts : List Lift := [⟨300, 2400, 45⟩, ⟨300, 2600, 15⟩, ⟨300, 2800, 15⟩]

/-- H3's settings (1.13), in service. -/
def holderOn : HolderSettings := { geometry := some lifts, stops := some ⟨880, 24⟩, service := .inService, strokeLimit := 90 }

/-- A live holder record at a height below the second boundary, with its first cupped flag. -/
def standing (h : Nat) (cup : Bool) : HolderRec :=
  { HolderRec.cold holderOn with
    height := some h, volume := some (volumeAt lifts h), cupped := [cup, false], carried := some (if cup then 2 else 1),
    nominal := if cup then 60 else 45, temperature := some 45 }

/-- A valve seen shut. -/
def shut : ValveRec := { ValveRec.cold with state := .closed, openC := some .broken, shutC := some .made }

/-- A valve seen open. -/
def opened : ValveRec := { ValveRec.cold with state := .opened, openC := some .made, shutC := some .broken }

/-- A yard of six holders like H3, valves shut, the clock set, in a mode. -/
def yardIn (m : Mode) : State :=
  let s := State.reset
  { s with
    yard := { s.yard with mode := m, clock := some ⟨4127, 61200⟩ }
    settings := { s.settings with holders := .fill holderOn }
    holders := .fill (standing 298 true)
    valves := .fill ⟨shut, shut⟩
    accounts := { s.accounts with day := some (DayRec.fresh 4127 .boundary (some 5412300) none false) } }

/-- H3 granted MAKE with its inlet open and order 41 of 3.13 RUNNING after reading 4. -/
def filling : State :=
  (((yardIn .run).setHolder .h3 (standing 300 true)).setValve .h3 .inlet opened).setPathState .make (.granted ⟨.h3, .ordered⟩)
    |>.setActive .h3 (some
      { tag := 41, state := .running, start := some ⟨4127, 61200⟩,
        body := .transfer
          { path := .make, quantity := 500000, atCount := .hand, tallyStep := some 200000, moved := 492000, toGo := 8000,
            overrun := 0, backflow := 12000, tallyCount := 2, endDue := none, outgoing := false } })

/-- The transfer part of a holder's active order. -/
def transferOf (s : State) (h : HolderId) : Option Transfer :=
  (s.active h).bind fun o => match o.body with
    | .transfer t => some t
    | .proving _ => none

/-- H3 PROVING on order 61 of 5.8 at its expiry, the temperature fallen to 44. -/
def proving : State :=
  ((yardIn .run).setHolder .h3 { standing 448 true with temperature := some 44 }).setActive .h3 (some
    { tag := 61, state := .proving, start := none,
      body := .proving { tolerance := 5000, period := 240, startStock := some 1156731, timer := some 0 } })
    |> fun s => { s with accounts := { s.accounts with barometer := { value := some (2992, .reading), sum := 0, count := 0 } } }

/-- D2 of 8.10 before 17:02: supplied by H3 at 60, loading 50, setpoint 70, gauges 64 and 67. -/
def governed : State :=
  let s := (yardIn .run).setPathState (.dist .d2) (.granted ⟨.h3, .ordered⟩)
  s.setDistrictSettings .d2
      { s.districtSettings .d2 with schedule := [⟨360, 40⟩, ⟨990, 60⟩, ⟨1320, 35⟩] }
    |>.setDistrict .d2
      { s.district .d2 with fogLift := 10, loading := 50, supplying := some .h3, duty := some ⟨64, 0⟩, check := some ⟨67, 70⟩ }

/-- The booster of 9.8 at 17:06:10: RUN-UP for D2 with D1 queued. -/
def runningUp : State :=
  let s := governed
  { s with
    settings := { s.settings with booster := { s.settings.booster with enabled := true } }
    booster := { s.booster with state := .runUp, granted := some .d2, queue := [.d1], timer := some 50, start := true,
                                selector := some .d2 } }
    |>.setDistrict .d2 { s.district .d2 with request := .granted }

/-- M3 of 7.11 at 17:36:00. -/
def metered : State :=
  let s := yardIn .run
  let a := DayAccount.fresh
  let acc : DayAccount := { a with total := 2048410, therms := 10242, slots := a.slots.set 11 311044 }
  { s with
    yard := { s.yard with clock := some ⟨4127, 63360⟩ }
    accounts :=
      { s.accounts with
        barometer := { value := none, sum := 17952, count := 6 }
        btu := s.accounts.btu.set .m3 40000
        day := s.accounts.day.map fun (d : DayRec) => ({ d with accounts := d.accounts.set .m3 acc } : DayRec) } }
    |>.setMeter .m3
      { MeterRec.cold with pulses := 4987, gaugeSum := 2174, gaugeCount := 36, lastT := some 45, residue := 3700 }

/-! ### Lines, replies and flags (11.8) -/

theorem test_check_digits : hexByte (checkSum "GRP 7".toList) = "40".toList ∧ hexByte (checkSum "CLR 7".toList) = "38".toList ∧
    hexByte (checkSum "ATTN 7F".toList) = "D4".toList ∧ hexByte (checkSum "FIN".toList) = "DD".toList := by decide +kernel

theorem test_grp7_after_cold_start : body (exec (.grp ["7".toList]) State.reset) = "OK 80 GRP COLD UNSET NONE NONE".toList := by
  decide +kernel

theorem test_clr7_gives_flags_before : body (exec (.clr ["7".toList]) State.reset) = "OK 80 CLR COLD UNSET NONE NONE".toList := by
  decide +kernel

theorem test_attn_releases : body (exec (.attn ["7F".toList]) State.reset) = "OK 80 ATTN FF".toList ∧ State.reset.attn = true ∧
    (after (exec (.attn ["7F".toList]) State.reset)).attn = false := by decide +kernel

theorem test_fin_reply_line : ((after (exec (.fin []) State.reset)).line.reply.map Reply.line) =
    some ("OK 80 FIN NONE*6F".toList ++ ['\r', '\n']) := by decide +kernel

theorem test_bad_check_is_discarded :
    (after (execLine ("FIN*DE".toList ++ ['\r']) State.reset)).line.lastDiscard = some .check := by decide +kernel

theorem test_mode_in_survey : body (exec (.mode ["HOLD".toList]) State.reset) = "RM 80 MODE".toList ∧
    (after (exec (.mode ["HOLD".toList]) State.reset)).line.lastRefusal = some ⟨"MODE".toList, .rm⟩ := by decide +kernel

theorem test_stuck_line : (after (execLine ("UUUU".toList ++ ['\r']) State.reset)).line.lastDiscard = some .stuck := by decide +kernel

theorem test_gap_drops_partial_line :
    (after (exec .gapTimerExpiry (State.reset.receive (.text ['F'])))).line.lastDiscard = some .gap := by decide +kernel

theorem test_overlap : (after (exec (.fin []) (after (exec (.fin []) State.reset)))).line.lastDiscard = some .overlap := by
  decide +kernel

theorem test_small_letters_are_unknown : requestOf "fin".toList = .unknownVerb "fin".toList [] ∧
    body (exec (.unknownVerb "fin".toList []) State.reset) = "RU 80 fin".toList := by decide +kernel

theorem test_forms : requestOf "CLOCK START 6".toList = .clockStart ["6".toList] ∧
    requestOf "VALVE H5 IN CLEAR".toList = .valveClear ["H5".toList, "IN".toList] ∧
    requestOf "METER M3".toList = .meter ["M3".toList] ∧ requestOf "METER M3 20".toList = .meterSet ["M3".toList, "20".toList] ∧
    requestOf "METER DEFAULT 50 60".toList = .meterDefault ["50".toList, "60".toList] ∧
    requestOf "BOOST CLEAR".toList = .boostClear ∧ requestOf "DAY".toList = .day ∧
    requestOf "DAY MC".toList = .dayAcct ["MC".toList] := by decide +kernel

theorem test_double_space_is_an_empty_word : requestOf "GRP  7".toList = .grp [[], "7".toList] ∧
    body (exec (.grp [[], "7".toList]) State.reset) = "RA 80 GRP".toList := by decide +kernel

theorem test_leading_zeros : parseNum "007".toList = some 7 ∧ parseNum [] = none ∧ parseNum "-7".toList = none := by decide +kernel

theorem test_times : parseSeconds "06:00:20".toList = some 21620 ∧ parseSeconds "24:00:00".toList = none ∧
    parseMinute "16:30".toList = some 990 ∧ parseMinute "6:30".toList = none := by decide +kernel

theorem test_busy_during_save :
    body (exec (.requestBusy "FIN".toList []) (after (exec .replySent (after (exec (.save []) State.reset))))) = "BY 80 FIN".toList := by
  decide +kernel

theorem test_yard_during_save :
    body (exec (.yard []) (after (exec .replySent (after (exec (.save []) State.reset))))) =
      "OK 80 YARD SURVEY UNSET NONE 6 CLOCK NOHOLDER SAVING SAVED-COPY COLD 80 FF".toList := by decide +kernel

theorem test_save_completes :
    (after (exec .saveComplete (after (exec (.save []) State.reset)))).store = some Settings.factory := by decide +kernel

theorem test_restart_waits_for_its_reply :
    (after (exec (.restart []) State.reset)).yard.lastReset = .cold ∧
    (after (exec .replySent (after (exec (.restart []) State.reset)))).yard.lastReset = .warm := by decide +kernel

/-! ### Volume correction (chapter 6) -/

theorem test_factors : factor 2992 60 45 = 10421 ∧ factor 2992 60 60 = 10120 ∧ factor 2992 60 44 = 10441 ∧
    factor 3000 0 60 = 10000 ∧ factor 2700 0 120 = 8069 ∧ factor 3150 300 0 = 12701 ∧ factor 3000 50 60 = 10123 ∧
    factor 3000 48 61 = 10098 ∧ factor 2998 52 59 = 10140 := by decide +kernel

theorem test_interval_credit : standardCredit 4987 10 10421 3700 = 51969 ∧ creditResidue 4987 10 10421 3700 = 8970 ∧
    creditTherms 51969 500 40000 = 260 ∧ creditBtu 51969 500 40000 = 24500 := by decide +kernel

theorem test_stocks : stockOf 1110000 10421 = 1156731 ∧ stockOf 1104800 10441 = 1153521 := by decide +kernel

/-! ### Holders (1.13, 1.14) -/

theorem test_volumes : volumeAt lifts 450 = 1110000 ∧ volumeAt lifts 310 = 746000 ∧ volumeAt lifts 302 = 725200 ∧
    volumeAt lifts 298 = 715200 ∧ volumeAt lifts 303 = 727800 ∧ volumeAt lifts 912 = volumeAt lifts 900 := by decide +kernel

/-- Reading 4 of 1.13: at 296 the second lift is set down, CUP is set, and the movement trails. -/
theorem test_reading_uncups :
    let t := after (exec (.heightReport .h3 (some 296)) (yardIn .run))
    (t.holder .h3).nominal = 45 ∧ (t.holder .h3).carried = some 1 ∧ t.flags.get (.holder .h3 .cup) = true ∧
    (t.holder .h3).trailing = -4800 := by decide +kernel

/-- Readings 5 and 6 of 1.13: at 299 nothing changes, at 303 the lift is taken up. -/
theorem test_reading_hysteresis :
    cuppedNext 299 300 false = false ∧ cuppedNext 302 300 true = true ∧ cuppedNext 303 300 false = true ∧
    cuppedNext 297 300 true = false := by decide +kernel

theorem test_height_out_of_range : (after (exec (.heightReport .h3 (some 913)) (yardIn .run))).holder .h3 = standing 298 true := by
  decide +kernel

theorem test_loss : ((after (exec (.lossTimerExpiry .h3) (yardIn .run))).holder .h3).lost = true := by decide +kernel

/-- 1.14: the stock of H3 at 450 with 45 °F and 2992. -/
theorem test_holder_reads_stock :
    let s := proving.setHolder .h3 (standing 450 true)
    ((after (exec (.holder ["H3".toList]) s)).holder .h3).lastStock = some ⟨1156731, some ⟨4127, 61200⟩⟩ := by decide +kernel

theorem test_stops_within_travel :
    body (exec (.stops ["H3".toList, "901".toList, "24".toList]) (yardIn .hold)) = "RA 80 STOPS".toList ∧
    body (exec (.stops ["H3".toList, "900".toList, "24".toList]) (yardIn .hold)) = "OK 80 STOPS 880 24".toList := by decide +kernel


theorem test_service_needs_geometry :
    body (exec (.service ["H3".toList, "IN".toList]) State.reset) = "RS 80 SERVICE".toList ∧
    body (exec (.service ["H3".toList, "OUT".toList]) (yardIn .hold)) = "OK 80 SERVICE IN".toList := by decide +kernel

theorem test_geom_replaced : body (exec (requestOf "GEOM H3 1 480 2400 45".toList) State.reset) = "OK 80 GEOM NONE".toList ∧
    body (exec (requestOf "GEOM H3 1 481 2400 45".toList) State.reset) = "RA 80 GEOM".toList := by decide +kernel

theorem test_temperature_report :
    ((after (exec (.holderTemperatureReport .h3 (some 120)) (yardIn .run))).holder .h3).temperature = some 120 ∧
    ((after (exec (.holderTemperatureReport .h3 (some 121)) (yardIn .run))).holder .h3).temperature = some 45 := by decide +kernel

/-! ### Valves (2.10 to 2.12) -/

/-- 2.11: the first report with both contacts broken starts the search; its timer gives FAULT with cause TRAVEL. -/
theorem test_search_after_cold_start :
    let s := after (exec (.valveContactReport .h5 .inlet .broken .broken) State.reset)
    (s.valve .h5 .inlet).timer = some 90 ∧
    ((after (exec (.strokeTimerExpiry .h5 .inlet) s)).valve .h5 .inlet).state = .fault .travel := by decide +kernel

/-- 2.12: a valve that leaves OPEN under a running order ends the order VALVE, and the path's close makes the stroke commanded. -/
theorem test_moved_shut :
    let t := after (exec (.valveContactReport .h3 .inlet .broken .broken) filling)
    (t.valve .h3 .inlet).state = .closing .commanded ∧ (t.finished.map Finished.cause) = [.valve] ∧ (t.path .make).state = .empty ∧
    (t.path .make).unserved = true := by decide +kernel

/-- 2.11: CLEAR is refused until the SHUT contact is reported made. -/
theorem test_valve_clear :
    let f : ValveRec := { ValveRec.cold with state := .fault .travel, openC := some .broken, shutC := some .broken }
    let s := State.reset.setValve .h5 .inlet f
    let t := State.reset.setValve .h5 .inlet { f with shutC := some .made }
    body (exec (requestOf "VALVE H5 IN CLEAR".toList) s) = "RS 80 VALVE".toList ∧
    body (exec (requestOf "VALVE H5 IN CLEAR".toList) t) = "OK 80 VALVE FAULT TRAVEL".toList := by decide +kernel

theorem test_valve_read : body (exec (requestOf "VALVE H3 IN".toList) filling) =
    "OK 80 VALVE OPEN NONE MADE BROKEN REST NONE 90 NONE NONE".toList := by decide +kernel

theorem test_stroke_is_clamped : body (exec (requestOf "STROKE H3 19".toList) State.reset) = "CL 80 STROKE 90".toList ∧
    ((after (exec (requestOf "STROKE H3 19".toList) State.reset)).holderSettings .h3).strokeLimit = 20 := by decide +kernel

/-! ### Orders (3.13 to 3.15) -/

/-- 3.13: the load. -/
theorem test_load : body (exec (requestOf "LOAD H3 41 FILL MAKE 500000 HAND 200000".toList) (yardIn .hold)) =
    "OK 80 LOAD ACTIVE".toList := by decide +kernel

/-- 3.13: H3 granted at the load, its order STARTING and its inlet commanded open. -/
theorem test_load_grants :
    let t := after (exec (requestOf "LOAD H3 41 FILL MAKE 500000 HAND 200000".toList) (yardIn .run))
    (t.path .make).state = .granted ⟨.h3, .ordered⟩ ∧ (t.active .h3).map Order.state = some .starting ∧
    (t.valve .h3 .inlet).state = .opening .commanded := by decide +kernel

/-- 3.13, reading 5: 26,000 counted past a to-go of 8,000; OVERRUN, and the second lift taken up at the same reading. -/
theorem test_fill_past_its_count :
    let t := after (exec (.heightReport .h3 (some 310)) { filling with holders := filling.holders.set .h3 (standing 300 false) })
    (transferOf t .h3).map (fun u => (u.moved, u.toGo, u.overrun, u.backflow, u.tallyCount)) = some (518000, 0, 18000, 12000, 2) ∧
    (t.active .h3).map Order.state = some .overrun ∧ (t.holder .h3).nominal = 60 := by decide +kernel

/-- 3.13, reading 3: movement against the order is backflow. -/
theorem test_backflow :
    let t := after (exec (.heightReport .h3 (some 295)) filling)
    (transferOf t .h3).map (fun u => (u.moved, u.toGo, u.backflow)) = some (492000, 8000, 24000) := by decide +kernel

/-- 3.14: an append to a full list drops the oldest and sets OVERFLOW. -/
theorem test_full_finished_list :
    let r (n : Nat) : Finished := (Order.newProving n 0 30).finish .h1 .ended none none none
    let s := { yardIn .run with finished := (List.range 16).map fun k => r (k + 101) }
    let t := s.appendFinished (r 7)
    t.finished.map Finished.tag = [102, 103, 104, 105, 106, 107, 108, 109, 110, 111, 112, 113, 114, 115, 116, 7] ∧
    t.flags.get .overflow = true := by decide +kernel

theorem test_end_ready : body (exec (requestOf "END H3".toList)
    ((yardIn .hold).setActive .h3 (some (Order.newProving 61 5000 240)))) = "OK 84 END 61 READY".toList := by decide +kernel

theorem test_drop_and_orders : body (exec (requestOf "DROP H3".toList) filling) = "RS 80 DROP".toList ∧
    body (exec (requestOf "ORDERS H3".toList) filling) =
      "OK 80 ORDERS 41 FILL RUNNING MAKE 500000 HAND 200000 492000 8000 0 12000 2 4127 17:00:00 NONE NO NONE".toList := by
  decide +kernel

theorem test_prove_begins : ((after (exec (requestOf "PROVE H3 61 5000 240".toList) (yardIn .run))).active .h3).map Order.state =
    some .proving := by decide +kernel

/-- 5.8: the outcome of the proving: a loss of 3,210 within the tolerance of 5,000. -/
theorem test_proving_outcome :
    let t := after (exec (.provingTimerExpiry .h3) proving)
    t.finished.map (fun f => (f.tag, f.cause, f.startStock, f.endStock, f.loss)) =
      [(61, .pass, some 1156731, some 1153521, some 3210)] := by decide +kernel

/-- 5.9: a valve moved open ends the proving INCOMPLETE and is commanded closed. -/
theorem test_proving_cut_short :
    let t := after (exec (.valveContactReport .h3 .outlet .broken .broken) proving)
    t.finished.map Finished.cause = [.incomplete] ∧ (t.valve .h3 .outlet).state = .closing .commanded := by decide +kernel

/-! ### Paths (4.11, 4.12) -/

/-- 4.12: a valve found open in SURVEY is adopted. -/
theorem test_adoption :
    let s := (yardIn .survey).setValve .h2 .inlet ValveRec.cold
    let t := after (exec (.valveContactReport .h2 .inlet .made .broken) { s with yard := { s.yard with clock := none } })
    (t.path .make).state = .granted ⟨.h2, .adopted⟩ ∧ t.flags.get (.path .make .adopted) = true := by decide +kernel

/-- 4.12: a FILL loaded for the adopted holder takes the grant over. -/
theorem test_take_over :
    let s := ((yardIn .run).setValve .h2 .inlet opened).setPathState .make (.granted ⟨.h2, .adopted⟩)
    let t := after (exec (requestOf "LOAD H2 50 FILL MAKE 400000 STAND 0".toList) s)
    (t.path .make).state = .granted ⟨.h2, .ordered⟩ ∧ (t.active .h2).map Order.state = some .running ∧
    (t.path .make).lastServed = some .h2 := by decide +kernel

/-- 4.11: the search of a ROTATING path starts after the last served holder. -/
theorem test_rotation : searchOrder .rotating (some .h1) = [.h2, .h3, .h4, .h5, .h6, .h1] ∧
    searchOrder .fixed (some .h1) = HolderId.all ∧ searchOrder .rotating none = HolderId.all := by decide +kernel

theorem test_path_read : body (exec (requestOf "PATH MAKE".toList) filling) =
    "OK 80 PATH GRANTED H3 ORDERED 41 RUNNING NONE NONE NONE FIXED NONE CLEAR".toList := by decide +kernel

theorem test_prio_word : body (exec (requestOf "PRIO D2 ROTATE".toList) State.reset) = "OK 80 PRIO FIXED".toList ∧
    body (exec (requestOf "PRIO D2 ROTATING".toList) State.reset) = "RA 80 PRIO".toList := by decide +kernel

/-! ### Street pressure (8.10 to 8.12) -/

/-- 8.10, 17:02: 64 and 67 give 65, below 70 less 3; the loading steps from 50 to 52. -/
theorem test_period_end_low :
    let t := after (exec (.periodEnd .d2) governed)
    governed.setpoint .d2 = 70 ∧ (t.district .d2).reading = some 65 ∧ (t.district .d2).condition = some .low ∧
    (t.district .d2).loading = 52 := by decide +kernel

/-- 8.10, 17:03: gauges 4 apart disagree. -/
theorem test_period_end_disagree :
    let t := after (exec (.periodEnd .d2) (governed.setDistrict .d2 { governed.district .d2 with duty := some ⟨63, 0⟩ }))
    (t.district .d2).pair = some .disagree ∧ (t.district .d2).unorderedRun = 1 ∧ (t.district .d2).loading = 50 := by decide +kernel

/-- 8.10, 17:05: at the supply limit with one gauge LOW, the district asks for the booster. -/
theorem test_booster_requested :
    let s := governed.setDistrict .d2 { governed.district .d2 with loading := 54, duty := some ⟨63, 0⟩, check := some ⟨67, 250⟩ }
    let t := after (exec (.periodEnd .d2) { s with settings := { s.settings with booster := ⟨true, 40, 90, 30⟩ } })
    (t.district .d2).loading = 56 ∧ (t.district .d2).request = .granted ∧ t.booster.state = .runUp ∧
    t.flags.get (.district .d2 .single) = true := by decide +kernel

/-- 8.10, 17:05:20: the uncupping of the supplying holder clamps the loading at once. -/
theorem test_clamp_at_once :
    let t := after (exec (.heightReport .h3 (some 296)) (governed.setDistrict .d2 { governed.district .d2 with loading := 56 }))
    (t.district .d2).loading = 41 ∧ t.flags.get (.district .d2 .clamped) = true := by decide +kernel

theorem test_sched_sorts : body (exec (requestOf "SCHED D2 22:00 35 06:00 40 16:30 60".toList) State.reset) =
      "OK 80 SCHED 00:00 40".toList ∧
    ((after (exec (requestOf "SCHED D2 22:00 35 06:00 40 16:30 60".toList) State.reset)).districtSettings .d2).schedule =
      [⟨360, 40⟩, ⟨990, 60⟩, ⟨1320, 35⟩] := by decide +kernel

theorem test_fog_is_clamped : body (exec (requestOf "FOG D2 31".toList) governed) = "CL 80 FOG 10".toList ∧
    ((after (exec (requestOf "FOG D2 31".toList) governed)).district .d2).fogLift = 30 := by decide +kernel

theorem test_govern : body (exec (requestOf "GOVERN D2 3 2 15 100 4 40 60 3".toList) State.reset) =
      "OK 80 GOVERN 3 2 15 100 4 40 60 3".toList ∧
    body (exec (requestOf "GOVERN D2 3 2 101 100 4 40 60 3".toList) State.reset) = "RA 80 GOVERN".toList := by decide +kernel

theorem test_dist : body (exec (requestOf "DIST D2".toList) governed) =
    ("OK 80 DIST 16:30 60 10 70 3 2 15 100 4 40 60 3 50 H3 56 56 64 0 67 70 NONE NONE NONE 0 NONE NO 0 60").toList := by
  decide +kernel

theorem test_gauge_range :
    ((after (exec (.farPointGaugeReport .d2 .duty (some 300)) governed)).district .d2).duty = some ⟨300, 0⟩ ∧
    ((after (exec (.farPointGaugeReport .d2 .duty (some 301)) governed)).district .d2).duty = some ⟨64, 0⟩ := by decide +kernel

/-! ### The booster (9.8, 9.9) -/

/-- 9.8, 17:06:40: the contact made boosts D2. -/
theorem test_contact_made :
    let t := after (exec (.boosterContactReport .made) runningUp)
    t.booster.state = .running ∧ t.booster.boosted = some .d2 ∧ (t.district .d2).boosted = true ∧ t.available .d2 = some 96 ∧
    t.flags.get .boosterGrant = true := by decide +kernel

/-- 9.9: the contact made with a withdrawal pending turns the booster to the queue. -/
theorem test_withdrawal_pending :
    let s := { runningUp with booster := { runningUp.booster with withdrawalPending := true } }
    let t := after (exec (.boosterContactReport .made) (s.setDistrict .d1 { s.district .d1 with request := .queued }))
    t.booster.state = .aligning ∧ t.booster.granted = some .d1 ∧ t.booster.timer = some 30 ∧ t.booster.boosted = none := by
  decide +kernel

theorem test_run_up_expiry :
    let t := after (exec .runUpExpiry runningUp)
    t.booster.state = .fault .runUp ∧ t.booster.queue = [.d1] ∧ t.booster.start = false ∧ (t.district .d2).request = .none := by
  decide +kernel

/-- 9.8, 22:19:30. -/
theorem test_alignment_expiry :
    let t := after (exec .alignmentExpiry { runningUp with booster := { runningUp.booster with state := .aligning } })
    t.booster.state = .running ∧ t.booster.boosted = some .d2 := by decide +kernel

/-- 9.8, 17:05:30: the run-down ends in the grant of the queue's head. -/
theorem test_run_down_expiry :
    let b : BoosterRec := { BoosterRec.cold with state := .runDown, queue := [.d2], timer := some 0 }
    let t := after (exec .runDownExpiry { governed with booster := b })
    t.booster.state = .runUp ∧ t.booster.granted = some .d2 ∧ t.booster.timer = some 90 := by decide +kernel

/-- 9.8, 22:44. -/
theorem test_boost_clear :
    let b : BoosterRec := { BoosterRec.cold with state := .fault .contact, queue := [.d3], contact := some .broken }
    body (exec .boostClear { State.reset with booster := b }) = "OK 80 BOOST FAULT CONTACT".toList ∧
    (after (exec .boostClear { State.reset with booster := b })).booster.granted = some .d3 := by decide +kernel

theorem test_boost_and_booster : body (exec (requestOf "BOOST ENABLE 81 90 30".toList) State.reset) =
      "CL 80 BOOST DISABLE 40 90 30".toList ∧
    body (exec (requestOf "BOOSTER".toList) runningUp) =
      "OK 80 BOOSTER RUN-UP D2 NONE NO D1 50 NONE START D2 NONE ENABLE 40 90 30".toList := by decide +kernel

/-! ### Accounts (7.11, 7.12) -/

/-- 7.11: the interval of M3. -/
theorem test_interval_end :
    let t := after (exec .intervalEnd metered)
    let a := t.accounts.day.map fun d => d.accounts.get .m3
    (t.meter .m3).residue = 8970 ∧ t.accounts.btu.get .m3 = 24500 ∧ a.map DayAccount.total = some 2100379 ∧
    a.map DayAccount.therms = some 10502 ∧ a.map DayAccount.estimated = some 1 ∧
    a.map (fun a => a.slots.get 11) = some 363013 ∧ t.accounts.barometer.value = some (2992, .interval) ∧
    (t.meter .m3).lastG = some 60 ∧ t.flags.get (.meter .m3 .estimated) = true := by decide +kernel

/-- 7.12: the balance of the day. -/
theorem test_balance :
    let a (n : Nat) : DayAccount := { DayAccount.fresh with total := n }
    let d : DayRec := { DayRec.fresh 4127 .boundary (some 5412300) none false with
      accounts := ⟨a 4312880, a 1967405, a 1802114, a 1455960, a 2011377, a 988202⟩ }
    d.make = 6280285 ∧ d.sendOut = 6257653 ∧ d.change 5398900 = some (-13400) ∧ d.balance 5398900 = some 36032 := by decide +kernel

theorem test_day_end :
    let t := after (exec .dayEnd (yardIn .run))
    (t.accounts.closed.map ClosedDay.day) = some 4127 ∧ (t.accounts.day.map DayRec.day) = some 4128 ∧
    t.yard.clock = some ⟨4128, 61200⟩ ∧ t.shows .day = true := by decide +kernel

theorem test_day_is_taken :
    let s := after (exec .dayEnd (yardIn .run))
    (after (exec (requestOf "DAY".toList) s)).shows .day = false ∧ (after (exec (requestOf "DAY MC".toList) s)).shows .day = true ∧
    body (exec (requestOf "BAL".toList) State.reset) = "OK 80 BAL NONE".toList := by decide +kernel

theorem test_hour_end : ((after (exec .hourEnd metered)).accounts.day.map fun d => (d.accounts.get .m3).peak) =
    some (some ⟨11, 311044⟩) := by decide +kernel

theorem test_pulses_saturate :
    let s := metered.setMeter .m3 { MeterRec.cold with pulses := 65534 }
    ((after (exec (.pulseReport .m3 1#8) s)).meter .m3).saturated = false ∧
    ((after (exec (.pulseReport .m3 2#8) s)).meter .m3).pulses = 65535 ∧
    (after (exec (.pulseReport .m3 2#8) s)).flags.get (.meter .m3 .saturated) = true := by decide +kernel

theorem test_line_readings :
    ((after (exec (.lineGaugeReport .m3 (some 300)) metered)).meter .m3).gaugeSum = 2474 ∧
    ((after (exec (.lineTemperatureReport .m3 (some 121)) metered)).meter .m3).tempCount = 0 ∧
    (after (exec (.barometerReport (some 2699)) metered)).accounts.barometer.count = 6 := by decide +kernel

theorem test_meter_value : body (exec (requestOf "METER M3 101".toList) (yardIn .hold)) = "CL 80 METER 10".toList ∧
    body (exec (requestOf "METER M3 101".toList) (yardIn .run)) = "RM 80 METER".toList := by decide +kernel

theorem test_cv_is_not_clamped : body (exec (requestOf "CV M3 701".toList) State.reset) = "RA 80 CV".toList ∧
    body (exec (requestOf "CV M3 700".toList) State.reset) = "OK 80 CV 500".toList := by decide +kernel

theorem test_acct_without_a_day : body (exec (requestOf "ACCT M3".toList) State.reset) = "OK 80 ACCT NONE".toList := by decide +kernel

/-! ### The clock (10.9) -/

/-- 10.9: a forward trim of 40 s across the day end. -/
theorem test_trim_across_day_end :
    let s := { yardIn .run with yard := { (yardIn .run).yard with clock := some ⟨4127, 21580⟩ } }
    let r := exec (requestOf "CLOCK 4128 06:00:20".toList) s
    body r = "OK C0 CLOCK 4127 05:59:40".toList ∧ (after r).yard.clock = some ⟨4128, 21620⟩ ∧
    ((after r).accounts.closed.map ClosedDay.clockJump) = some false := by decide +kernel

/-- 10.9: a change back into the day before is refused in RUN, and a backward trim is taken. -/
theorem test_clock_backward :
    classifyClock 6 ⟨4128, 21720⟩ ⟨4127, 21540⟩ = .jumpDay ∧ classifyClock 6 ⟨4128, 51850⟩ ⟨4128, 51830⟩ = .backwardTrim := by
  decide +kernel

theorem test_first_clock :
    let t := after (exec (requestOf "CLOCK 4127 17:00:00".toList) State.reset)
    t.yard.clock = some ⟨4127, 61200⟩ ∧ t.accounts.day.map DayRec.opened = some .short ∧ t.shows .unset = false := by decide +kernel

theorem test_clock_start : body (exec (requestOf "CLOCK START 23".toList) State.reset) = "OK 80 CLOCK 6".toList ∧
    body (exec (requestOf "CLOCK START 24".toList) State.reset) = "RA 80 CLOCK".toList := by decide +kernel

theorem test_clock_second_fires : (after (exec .clockSecond { yardIn .run with
    yard := { (yardIn .run).yard with clock := some ⟨4127, 61559⟩ } })).accounts.gathered = false ∧
    (after (exec .clockSecond (yardIn .run))).yard.clock = some ⟨4127, 61201⟩ := by decide +kernel

theorem test_hold_entry :
    let t := after (exec (.mode ["HOLD".toList]) filling)
    t.finished.map Finished.cause = [.hold] ∧ (t.path .make).state = .empty ∧ (t.valve .h3 .inlet).state = .closing .commanded := by
  decide +kernel

theorem test_cold_start_summary : (after (exec (.coldStart true) (yardIn .run))).summary = 0x80#8 ∧
    (after (exec (.coldStart true) (yardIn .run))).yard.baudHigh = true := by decide +kernel

theorem test_warm_restart_adopts :
    let t := after (exec .warmRestart filling)
    t.yard.mode = .survey ∧ t.summary = 0x80#8 ∧ t.yard.busyWindow = true := by decide +kernel

theorem test_reset_held : (after (exec .resetAsserted (yardIn .run))).attn = false ∧
    (after (exec (.fin []) (after (exec .resetAsserted (yardIn .run))))).line.reply = none := by decide +kernel

theorem test_busy_window_ends :
    (after (exec .busyWindowEnd (after (exec .warmRestart State.reset)))).yard.busyWindow = false := by decide +kernel

theorem test_stale_temperature : ((after (exec (.holderTemperatureStale .h3) (yardIn .run))).holder .h3).temperature = none := by
  decide +kernel

/-! ### A look at a request of no change, the second turn of the choices, and the order of a reload -/

/-- A SERVICE that changes nothing still looks for survey end (log entry 20). -/
theorem test_service_of_no_change_looks :
    (after (exec (.service ["H3".toList, "IN".toList]) (yardIn .survey))).yard.mode = .run ∧ (yardIn .survey).yard.mode = .survey := by
  decide +kernel

/-- H5 adopted on D2 at its low stop, with a DRAW on D2 ready and a FILL behind it, in SURVEY. -/
def adoptedLow : State :=
  let s := ((yardIn .survey).setHolder .h5 { standing 20 false with atLow := true }).setValve .h5 .outlet opened
  (s.setPathState (.dist .d2) (.granted ⟨.h5, .adopted⟩)).setSlots .h5
    ⟨some (Order.newTransfer 1 (.dist .d2) 1000 .hand none),
     some { Order.newTransfer 2 .make 1000 .hand none with state := .pending }⟩

/-- At survey end the take-over of D2 ends LOWED at once (R45), and the FILL it promotes is granted MAKE at the same event (R68). -/
theorem test_second_turn :
    let t := after (exec (.service ["H3".toList, "IN".toList]) adoptedLow)
    t.finished.map Finished.cause = [.lowed] ∧ (t.path (.dist .d2)).state = .empty ∧ (t.path .make).state = .granted ⟨.h5, .ordered⟩ ∧
    (t.active .h5).map Order.state = some .starting := by decide +kernel

/-- A reload that both brings an adopted flow to its low stop and lowers its pressure takes the stop first (R3, R20): the district is then
unsupplied, and its loading stands. -/
theorem test_reload_takes_the_stops_first :
    let s := ((governed.setValve .h3 .outlet opened).setPathState (.dist .d2) (.granted ⟨.h3, .adopted⟩))
    let c : HolderSettings := { holderOn with geometry := some [⟨300, 2400, 25⟩, ⟨300, 2600, 5⟩], stops := some ⟨600, 298⟩ }
    let t := after (exec .warmRestart { s with store := some { s.settings with holders := s.settings.holders.set .h3 c } })
    (t.path (.dist .d2)).state = .empty ∧ (t.district .d2).supplying = none ∧ (t.district .d2).loading = 50 ∧
    (t.holder .h3).nominal = 25 := by decide +kernel

/-! ### Time and the queue -/

theorem test_step_takes_the_front : after (step { State.reset with pending := [.resetAsserted, .clockSecond] }) =
    { after (exec .resetAsserted State.reset) with pending := [.clockSecond] } := by decide +kernel

theorem test_idle_second : ((after (step State.reset)).district .d1).periodTimer = 59 ∧ (after (step State.reset)).pending = [] := by
  decide +kernel

theorem test_due_expiry_waits_next :
    (after (step (State.reset.setDistrict .d2 { State.reset.district .d2 with periodTimer := 0 }))).pending = [.periodEnd .d2] := by
  decide +kernel

theorem test_no_word_spells_a_command : decodeTableWord 16 0 = none ∧ State.reset.withFetchWord 16 0 = State.reset := by decide +kernel

/-! ### WellFormed refuses an ill-formed term for each of its checks -/

theorem test_wf_refuses : Instr.wf (.grp ["7 7".toList]) = false ∧ Instr.wf (.grp ["7*".toList]) = false ∧
    Instr.wf (.load (List.replicate 36 "1".toList)) = false ∧ Instr.wf (.unknownVerb "FIN".toList []) = false ∧
    Instr.wf (.clock ["START".toList, "6".toList]) = false ∧ Instr.wf (.valve ["H1".toList, "IN".toList, "CLEAR".toList]) = false ∧
    Instr.wf (.valveClear ["H1".toList]) = false ∧ Instr.wf (.meter ["M1".toList, "10".toList]) = false ∧
    Instr.wf (.meter ["DEFAULT".toList]) = false ∧ Instr.wf (.meterSet ["M1".toList]) = false ∧
    Instr.wf (.meterSet ["DEFAULT".toList, "1".toList]) = false ∧ Instr.wf (.dayAcct []) = false ∧
    Instr.wf (.boost ["CLEAR".toList]) = false ∧ Instr.wf (.requestBusy " ".toList []) = false := by decide +kernel

theorem test_wf_admits : Instr.wf (.grp ["7".toList]) = true ∧ Instr.wf (.grp [[]]) = true ∧
    Instr.wf (.load (List.replicate 34 "1".toList)) = true ∧ Instr.wf (.unknownVerb [] []) = true ∧
    Instr.wf .clockSecond = true := by decide +kernel

/-! ### Witnesses: a state and operands that meet the hypotheses of each statement -/

/-- The state after a reset with a save in progress, its reply sent. -/
def saving : State := after (exec .replySent (after (exec (.save []) State.reset)))
/-- A reply still being sent. -/
def sending : State := after (exec (.fin []) State.reset)
/-- The reply to a RESTART being sent. -/
def restarting : State := after (exec (.restart []) State.reset)
/-- The 0.5 s after a warm restart. -/
def window : State := after (exec .warmRestart State.reset)

theorem listening_reset : State.reset.Listening := ⟨rfl, rfl, rfl, rfl⟩
theorem listening_yard (m : Mode) : (yardIn m).Listening := ⟨rfl, rfl, rfl, rfl⟩
theorem listening_filling : filling.Listening := ⟨rfl, rfl, rfl, rfl⟩
theorem listening_governed : governed.Listening := ⟨rfl, rfl, rfl, rfl⟩

/-- LineTextMakesItsCommand, LineReceivedDoesTheCommand: a short line, the empty one, and one of 72 characters. -/
theorem witness_lines : Instr.wf (.grp ["7".toList]) = true ∧ Instr.text (.grp ["7".toList]) = some "GRP 7".toList ∧
    Instr.wf (.unknownVerb [] []) = true ∧ Instr.text (.unknownVerb [] []) = some [] ∧
    Instr.wf (.unknownVerb (List.replicate 72 'A') []) = true ∧
    Instr.text (.unknownVerb (List.replicate 72 'A') []) = some (List.replicate 72 'A') ∧ State.reset.line.receiver = .idle := by
  decide +kernel

/-- ReceiverTakesCharacters: each class of character at its ends, and the receiver at its lengths. -/
theorem witness_receiver : State.reset.yard.resetHeld = false ∧
    (10#8 : Byte) ≠ 13#8 ∧ (42#8 : Byte) ≠ 13#8 ∧ (32 ≤ (32#8 : Byte).toNat ∧ (126#8 : Byte).toNat ≤ 126) ∧
    (31#8 : Byte).toNat < 32 ∧ 126 < (127#8 : Byte).toNat ∧
    (State.reset.receive (.text (List.replicate 71 'A'))).line.receiver = .text (List.replicate 71 'A') ∧
    (State.reset.receive (.text (List.replicate 72 'A'))).line.receiver = .text (List.replicate 72 'A') ∧
    (State.reset.receive (.digits ['A'] ['4', '1'])).line.receiver = .digits ['A'] ['4', '1'] ∧
    (State.reset.receive .skip).line.receiver = .skip :=
  ⟨rfl, by decide, by decide, by decide, by decide, by decide, rfl, rfl, rfl, rfl⟩

/-- LineEndIsJudged: a line for each case. -/
theorem witness_line_end : State.reset.line.receiver = .idle ∧ State.reset.line.reply = none ∧
    (State.reset.receive .skip).line.receiver = .skip ∧
    ((sending.receive (.text ['A'])).line.receiver = .text ['A'] ∧ (sending.receive (.text ['A'])).line.reply.isSome = true ∧
      (sending.receive (.text ['A'])).yard.resetHeld = false) ∧
    (2 ≤ ['A', 'A'].length ∧ ∀ c ∈ ['A', 'A'], some c = ['A', 'A'].head?) ∧
    (['A'].length < 2) ∧ (∃ c ∈ ['A', 'B'], some c ≠ ['A', 'B'].head?) ∧
    "DE".toList ≠ hexByte (checkSum "FIN".toList) :=
  ⟨rfl, rfl, rfl, ⟨rfl, by decide +kernel, by decide +kernel⟩, ⟨by decide, by simp⟩, by decide, ⟨'B', by simp⟩, by decide +kernel⟩

/-- BusyAndUnknownVerbs: the window, a save, and neither. -/
theorem witness_busy : (window.yard.resetHeld = false ∧ window.line.reply = none ∧ window.yard.busyWindow = true) ∧
    (saving.yard.resetHeld = false ∧ saving.line.reply = none ∧ saving.yard.save.isSome = true ∧ finVerb ≠ yardVerb) ∧
    Instr.wf (.fin []) = true ∧ Instr.lineWords (.fin []) = some [finVerb] ∧
    State.reset.yard.busyWindow = false ∧ State.reset.yard.save = none ∧ knownVerb "fin".toList = false := by decide +kernel

/-- RefusedRequestChangesNothing: one request for each code. -/
theorem witness_refused :
    ((after (exec (.mode ["HOLD".toList]) State.reset)).line.reply.map Reply.outcome = some .rm) ∧
    ((after (exec (.drop ["H1".toList]) State.reset)).line.reply.map Reply.outcome = some .rs) ∧
    ((after (exec (.drop []) State.reset)).line.reply.map Reply.outcome = some .ra) ∧
    ((after (exec (.unknownVerb [] []) State.reset)).line.reply.map Reply.outcome = some .ru) ∧
    ((after (exec (.fin []) window)).line.reply.map Reply.outcome = some .busy) ∧
    Instr.wf (.mode ["HOLD".toList]) = true ∧ Instr.lineWords (.mode ["HOLD".toList]) = some [modeVerb, "HOLD".toList] := by
  decide +kernel

/-- RunRefusesSettings. -/
theorem witness_run : (yardIn .run).Listening ∧ (yardIn .run).yard.mode = .run := ⟨listening_yard _, rfl⟩

/-- LineAndSupervisorEvents: a reply to FIN, a reply to RESTART, and a save. -/
theorem witness_line_events : sending.yard.resetHeld = false ∧ sending.line.reply.map Reply.verb = some finVerb ∧ finVerb ≠ restartVerb ∧
    restarting.line.reply.map Reply.verb = some restartVerb ∧ restarting.line.reply.map Reply.outcome = some .ok ∧
    saving.yard.save = some ⟨Settings.factory, 2⟩ := by decide +kernel

/-- ClrClearsItsGroup, AttnFollowsSummaryAndMask: the first and last group and mask. -/
theorem witness_groups : State.reset.Listening ∧ parseNum "0".toList = some (0 : Fin 8).val ∧ parseNum "7".toList = some (7 : Fin 8).val ∧
    parseHexByte "00".toList = some 0#8 ∧ parseHexByte "FF".toList = some 255#8 := ⟨listening_reset, by decide +kernel⟩

/-- ReadsChangeNothing, BoosterReadGivesTheRecord: names of each kind, and a closed day. -/
theorem witness_reads : filling.Listening ∧ parseHolder "H6".toList = some .h6 ∧ parseSide "OUT".toList = some .outlet ∧
    parsePath "MAKE".toList = some .make ∧ parsePath "D4".toList = some (.dist .d4) ∧ parseDistrict "D4".toList = some .d4 ∧
    parseMeter "M4".toList = some .m4 ∧ (after (exec .dayEnd filling)).accounts.closed.isSome = true ∧
    (after (exec .dayEnd filling)).yard.resetHeld = false := ⟨listening_filling, by decide +kernel⟩

/-- HolderReadKeepsTheStock: a stock that can be had, and one that cannot. -/
theorem witness_holder_read : filling.Listening ∧ (filling.holder .h3).lost = false ∧
    (filling.holderSettings .h3).geometry = some lifts ∧ (filling.holder .h3).height.isSome = true ∧
    (filling.holder .h3).volume = some 720000 ∧ (filling.holder .h3).temperature = some 45 ∧
    (State.reset.holder .h3).temperature = none ∧ State.reset.Listening :=
  ⟨listening_filling, by decide +kernel, by decide +kernel, by decide +kernel, by decide +kernel, by decide +kernel,
   by decide +kernel, listening_reset⟩

/-- YardSettings, AccountSettings: numbers at and beside the ends of their ranges. -/
theorem witness_settings : State.reset.Listening ∧ State.reset.yard.mode ≠ .run ∧ parseNum "19".toList = some 19 ∧
    parseNum "20".toList = some 20 ∧ parseNum "300".toList = some 300 ∧ parseNum "301".toList = some 301 ∧
    parseNum "23".toList = some 23 ∧ parsePriority "ROTATE".toList = some .rotating ∧ parseNum "0".toList = some 0 ∧
    parseNum "100".toList = some 100 ∧ parseNum "299".toList = some 299 ∧ parseNum "700".toList = some 700 ∧
    parseNum "701".toList = some 701 := ⟨listening_reset, by decide +kernel⟩

/-- ScheduleAndFog: one point and eight. -/
theorem witness_schedule : parsePoints ["00:00".toList, "9".toList] = some [⟨0, 9⟩] ∧ ([⟨0, 9⟩] : List SchedulePoint).length = 1 ∧
    (parsePoints (["00:00", "01:00", "02:00", "03:00", "04:00", "05:00", "06:00", "23:59"].flatMap
      fun t => [t.toList, "150".toList])).map List.length = some 8 ∧
    (([0, 60, 120, 180, 240, 300, 360, 1439].map fun m => (⟨m, 150⟩ : SchedulePoint)).map SchedulePoint.minute).Nodup ∧
    parseNum "30".toList = some 30 ∧ parseNum "31".toList = some 31 := by decide +kernel

/-- GovernSetsTheNumbers: a supplied district and an unsupplied one, in HOLD. -/
theorem witness_govern : State.reset.Listening ∧ State.reset.yard.mode ≠ .run ∧
    parseGovern (splitWords "D2 11 2 15 60 4 40 60 3".toList) = some (.d2, ⟨11, 2, 15, 60, 4, 40, 60, 3⟩) ∧
    State.reset.supplyLimit .d2 = none ∧
    (({ governed with yard := { governed.yard with mode := .survey } } : State).supplyLimit .d2 = some 56) :=
  ⟨listening_reset, by decide +kernel⟩

/-- BoostSetsTheBooster: a disable that drops a run-up, and an enable. -/
theorem witness_boost : runningUp.Listening ∧
    parseBoost ["DISABLE".toList, "40".toList, "90".toList, "30".toList] = some ⟨false, 40, 90, 30⟩ ∧
    runningUp.settings.booster.enabled = true ∧ runningUp.booster.state = .runUp ∧
    parseBoost ["ENABLE".toList, "81".toList, "90".toList, "30".toList] = some ⟨true, 81, 90, 30⟩ :=
  ⟨⟨rfl, rfl, rfl, rfl⟩, by decide +kernel⟩

/-- GeomReplacesTheGeometry: in SURVEY with a height present. -/
theorem witness_geom :
    let s := yardIn .survey
    s.Listening ∧ s.yard.mode ≠ .run ∧
    parseGeom ["H3".toList, "2".toList, "480".toList, "2400".toList, "45".toList, "480".toList, "2600".toList, "15".toList] =
      some (.h3, [⟨480, 2400, 45⟩, ⟨480, 2600, 15⟩]) ∧
    s.geomBarred .h3 [⟨480, 2400, 45⟩, ⟨480, 2600, 15⟩] = false ∧ (s.holder .h3).height = some 298 :=
  ⟨listening_yard _, by decide +kernel⟩

/-- StopsSetsTheStops: stops at the ends of their ranges, and one inch beyond each. -/
theorem witness_stops : (yardIn .hold).Listening ∧ (yardIn .hold).yard.mode ≠ .run ∧
    ((yardIn .hold).holderSettings .h3).geometry = some lifts ∧ totalTravel lifts = 900 ∧
    (12 ≤ 900 ∧ 900 ≤ totalTravel lifts ∧ 6 ≤ 840 ∧ 840 + 60 ≤ 900) ∧ (12 ≤ 66 ∧ 66 ≤ totalTravel lifts ∧ 6 ≤ 6 ∧ 6 + 60 ≤ 66) ∧
    ¬(12 ≤ 901 ∧ 901 ≤ totalTravel lifts ∧ 6 ≤ 24 ∧ 24 + 60 ≤ 901) ∧
    ¬(12 ≤ 65 ∧ 65 ≤ totalTravel lifts ∧ 6 ≤ 6 ∧ 6 + 60 ≤ 65) ∧ ((yardIn .hold).holder .h3).height = some 298 :=
  ⟨listening_yard _, by decide +kernel⟩

/-- ServicePlacesTheHolder: IN where IN, OUT with empty slots, IN with geometry and stops; and the two refusals. -/
theorem witness_service :
    let outside := (yardIn .hold).setHolderSettings .h3 { holderOn with service := .outOfService }
    ((yardIn .hold).holderSettings .h3).service = .inService ∧ (yardIn .hold).active .h3 = none ∧ (yardIn .hold).followOn .h3 = none ∧
    (outside.holderSettings .h3).service = .outOfService ∧ (outside.holderSettings .h3).geometry.isSome = true ∧
    (outside.holderSettings .h3).stops.isSome = true ∧
    (State.reset.holderSettings .h3).service = .outOfService ∧ (State.reset.holderSettings .h3).geometry = none ∧
    ({ filling with yard := { filling.yard with mode := .survey } } : State).slotFilled .h3 = true ∧
    parseService "OUT".toList = some .outOfService := by decide +kernel

/-- ModeChangesTheYard: the three modes, with and without the survey conditions, and a holder that HOLD leaves as it stands. -/
theorem witness_mode : State.reset.yard.mode = .survey ∧ filling.yard.mode = .run ∧ filling.active .h1 = none ∧
    (proving.active .h3).any (fun o => o.state == .proving && !o.counting) = true ∧ proving.yard.mode = .run ∧
    (yardIn .hold).yard.mode = .hold ∧ (yardIn .hold).surveyed = true ∧
    ((yardIn .hold).setHolder .h3 (HolderRec.cold holderOn)).surveyed = false := by decide +kernel

/-- FirstClockOpensTheDay: the first and last day and second. -/
theorem witness_first_clock : State.reset.yard.clock = none ∧ parseNum "1".toList = some 1 ∧ parseNum "65535".toList = some 65535 ∧
    parseSeconds "00:00:00".toList = some 0 ∧ parseSeconds "23:59:59".toList = some 86399 := by decide +kernel

/-- ClockTrims: 1 s and 300 s ahead and behind, and a jump of 301 s in RUN. -/
theorem witness_trims :
    let s := yardIn .run
    s.yard.clock = some ⟨4127, 61200⟩ ∧ s.yard.mode = .run ∧ parseNum "4127".toList = some 4127 ∧
    parseSeconds "17:00:01".toList = some 61201 ∧ position 61200 6 + 1 = position 61201 6 ∧
    parseSeconds "17:05:00".toList = some 61500 ∧ position 61200 6 + 300 = position 61500 6 ∧
    parseSeconds "16:59:59".toList = some 61199 ∧ position 61199 6 + 1 = position 61200 6 ∧
    parseSeconds "16:55:00".toList = some 60900 ∧ position 60900 6 + 300 = position 61200 6 ∧
    parseSeconds "17:05:01".toList = some 61501 ∧
    300 < (position 61501 6 - position 61200 6) + (position 61200 6 - position 61501 6) := by decide +kernel

/-- ClockSecondMovesTheClock: a plain second, a boundary, midnight, and the unset clock. -/
theorem witness_clock_second : (yardIn .run).yard.clock = some ⟨4127, 61200⟩ ∧ (61200 + 1) % 360 ≠ 0 ∧ (61559 + 1) % 360 = 0 ∧
    61559 < 86400 ∧ 86399 < 86400 ∧ (86399 + 1) % 360 = 0 ∧ State.reset.yard.clock = none ∧
    (yardIn .run).yard.resetHeld = false := by decide +kernel

/-- WarmRestartKeepsTheYard, ColdStartAndReset: a yard at work, and one with RESET held. -/
theorem witness_restarts : filling.yard.resetHeld = false ∧ (filling.path .make).state.grant = some ⟨.h3, .ordered⟩ ∧
    ((after (exec .warmRestart { filling with store := some filling.settings })).path .make).state.grant = some ⟨.h3, .adopted⟩ ∧
    (after (exec .resetAsserted filling)).yard.resetHeld = true ∧ Instr.fin [] ≠ .resetAsserted ∧
    (after (exec .resetAsserted filling)).line.reply = none := by decide +kernel

/-- HeightReportIsTaken: no geometry, the last valid height and the next, landed and not. -/
theorem witness_height : (State.reset.holderSettings .h3).geometry = none ∧ ((yardIn .run).holderSettings .h3).geometry = some lifts ∧
    912 ≤ totalTravel lifts + 12 ∧ totalTravel lifts + 12 < 913 ∧ (2 : Nat) ≤ 2 ∧ (2 : Nat) < 3 ∧ HolderId.h1 ≠ .h3 := by decide +kernel

/-- LossMakesTheHolderLost. -/
theorem witness_loss : (filling.holder .h3).lossTimer = some 30 ∧ (filling.holder .h3).lost = false ∧ filling.yard.resetHeld = false := by
  decide +kernel

/-- ReadingsAreHeld: values at the ends of both ranges, beyond them, and none. -/
theorem witness_readings : governed.yard.resetHeld = false ∧ (some 120 : Option Int) = some ((120 : Nat) : Int) ∧ 120 < 121 ∧
    (some 300 : Option Int) = some ((300 : Nat) : Int) ∧ 300 < 301 ∧ (∀ v : Nat, (none : Option Int) = some (v : Int) → 120 < v) :=
  ⟨rfl, rfl, by decide, rfl, by decide, fun _ h => by cases h⟩

/-- ContactsAreRecorded, StrokeTimerFaultsTheValve: a valve in each of the states they speak of. -/
theorem witness_valves :
    (filling.valve .h3 .inlet).state = .opened ∧ (∀ c, (filling.valve .h3 .inlet).state ≠ .fault c) ∧
    ((State.reset.setValve .h5 .inlet { ValveRec.cold with state := .fault .travel }).valve .h5 .inlet).state = .fault .travel ∧
    ((State.reset.setValve .h5 .inlet { ValveRec.cold with timer := some 0 }).valve .h5 .inlet).timer = some 0 ∧
    ((State.reset.setValve .h5 .inlet { ValveRec.cold with timer := some 0 }).valve .h5 .inlet).state = .unknown ∧
    ((State.reset.setValve .h5 .inlet
      { ValveRec.cold with state := .opening .moved, timer := some 0 }).valve .h5 .inlet).state = .opening .moved ∧
    ((State.reset.setValve .h5 .inlet
      { ValveRec.cold with state := .closing .commanded, timer := some 0 }).valve .h5 .inlet).state = .closing .commanded :=
  ⟨rfl, fun c h => (by cases h), rfl, rfl, rfl, rfl, rfl⟩

/-- CommandsMoveValves: a valve in each state, and one seen shut in UNKNOWN. -/
theorem witness_commands : shut.state = .closed ∧ ValveRec.cold.state = .unknown ∧ opened.state = .opened ∧
    ({ shut with state := .fault .stroke } : ValveRec).state = .fault .stroke ∧ (∀ c, opened.state ≠ .fault c) ∧
    opened.state ≠ .closed := ⟨rfl, rfl, rfl, rfl, fun c h => (by cases h), by decide⟩

/-- FaultsAreCleared: a fault of each kind that can be cleared, and one of each that cannot. -/
theorem witness_faults :
    let s := State.reset.setValve .h5 .inlet { shut with state := .fault .stroke }
    let b : BoosterRec := { BoosterRec.cold with state := .fault .contact, contact := some .broken }
    (s.valve .h5 .inlet).state = .fault .stroke ∧ (s.valve .h5 .inlet).shutC = some .made ∧ (s.valve .h5 .inlet).openC = some .broken ∧
    (State.reset.valve .h5 .inlet).shutC ≠ some .made ∧ (State.reset.setBooster b).booster.state = .fault .contact ∧
    (State.reset.setBooster b).booster.contact = some .broken ∧ State.reset.booster.contact ≠ some .broken := by decide +kernel

/-- OrdersAreOffered: both requests, each bar, and both slots. -/
theorem witness_offers :
    (parseLoad (splitWords "H3 1 FILL MAKE 1000 HAND 0".toList)).isSome = true ∧
    (parseLoad (splitWords "H3 65535 DRAW D4 16000000 STAND 1000000".toList)).isSome = true ∧
    (parseProve (splitWords "H3 41 0 30".toList)).isSome = true ∧
    (parseProve (splitWords "H3 1 100000 720".toList)).isSome = true ∧
    (State.reset.holderSettings .h3).service = .outOfService ∧ (filling.holderSettings .h3).service = .inService ∧
    41 ∈ filling.liveTags ∧ 1 ∉ filling.liveTags ∧ filling.active .h3 ≠ none ∧ filling.followOn .h3 = none ∧
    (filling.setFollowOn .h3 (filling.active .h3)).followOn .h3 ≠ none ∧ filling.active .h1 = none := by decide +kernel

/-- An order of 3.13 outgoing with an end due. -/
def endingOrder : Order :=
  { tag := 41, state := .overrun, start := none,
    body := .transfer
      { path := .make, quantity := 500000, atCount := .hand, tallyStep := none, moved := 500000, toGo := 0, overrun := 0,
        backflow := 0, tallyCount := 0, endDue := some .ended, outgoing := true } }

/-- EndDropAndFin: an empty slot, and an order in each state that END tells apart. -/
theorem witness_ends : filling.active .h1 = none ∧ (Order.newProving 1 0 30).state = .ready ∧
    (({ Order.newProving 1 0 30 with state := .proving }) : Order).state = .proving ∧
    (({ Order.newTransfer 1 .make 1000 .hand none with state := .starting }) : Order).state = .starting ∧
    (endingOrder.counting = true ∧ endingOrder.outgoing = true ∧ endingOrder.endDue ≠ none) ∧
    ((filling.active .h3).any fun o => o.counting && !o.outgoing) = true ∧ filling.followOn .h3 = none ∧
    (filling.setFollowOn .h3 (some (Order.newProving 1 0 30))).followOn .h3 = some (Order.newProving 1 0 30) ∧
    filling.finished = [] ∧ (filling.closeOrder .ended none none .h3).finished.length = 1 := by decide +kernel

/-- EndedOrderLeavesARecord: 15 records and 16, with a follow-on. -/
theorem witness_ended :
    let r : Finished := (Order.newProving 9 0 30).finish .h1 .ended none none none
    let s := filling.setFollowOn .h3 (some (Order.newProving 1 0 30))
    (s.active .h3).isSome = true ∧ s.followOn .h3 ≠ none ∧ (List.replicate 15 r).length < 16 ∧ 16 ≤ (List.replicate 16 r).length ∧
    HolderId.h1 ≠ .h3 := by decide +kernel

/-- CountingKeepsItsRelations: a FILL and a DRAW, both signs. -/
theorem witness_counting : (transferOf filling .h3).map Transfer.ok = some true ∧ (transferOf filling .h3).map Transfer.path = some .make ∧
    (∃ t : Transfer, t.ok = true ∧ t.path ≠ .make) ∧ (0 : Int) < 26000 ∧ (-12000 : Int) < 0 ∧ (26000 : Int) ≠ 0 :=
  ⟨by decide +kernel, by decide +kernel,
   ⟨⟨.dist .d1, 1000, .hand, none, 0, 1000, 0, 0, 0, none, false⟩, by decide +kernel, by decide +kernel⟩, by decide, by decide, by decide⟩

/-- ProvingHasItsOutcome: with a stock and without. -/
theorem witness_proving : proving.yard.resetHeld = false ∧ (proving.active .h3).map Order.state = some .proving ∧
    proving.stock .h3 = some 1153521 ∧
    (proving.setHolder .h3 { proving.holder .h3 with temperature := none }).stock .h3 = none := by decide +kernel

/-- ChoiceTakesAnEligibleHolder: a path with an eligible holder, and one with none. -/
theorem witness_choice :
    let s := (yardIn .run).setActive .h5 (some (Order.newTransfer 1 .make 1000 .hand none))
    s.choose .make = some .h5 ∧ s.choose (.dist .d1) = none ∧ s.settings.priority.get .make = .fixed := by decide +kernel

/-- The loading law holds of D2 as 8.10 has it. -/
theorem governed_loading : governed.LoadingOk where
  limits := fun d => by cases d <;> decide +kernel
  supply := fun d l h => by
    cases d
    · exact absurd h (by simp only [show governed.supplyLimit .d1 = none by decide +kernel, reduceCtorEq, not_false_eq_true])
    · rw [show governed.supplyLimit .d2 = some 56 by decide +kernel] at h
      cases h; decide +kernel
    · exact absurd h (by simp only [show governed.supplyLimit .d3 = none by decide +kernel, reduceCtorEq, not_false_eq_true])
    · exact absurd h (by simp only [show governed.supplyLimit .d4 = none by decide +kernel, reduceCtorEq, not_false_eq_true])

/-- PeriodEndGovernsTheLoading: a supplied district, and an unsupplied one. -/
theorem witness_period : governed.yard.resetHeld = false ∧ governed.LoadingOk ∧ governed.supplyLimit .d2 = some 56 ∧
    governed.supplyLimit .d1 = none := ⟨rfl, governed_loading, by decide +kernel, by decide +kernel⟩

/-- RunningContactIsTaken, BoosterTimersRunOut: a sound record in each state. -/
theorem witness_booster :
    runningUp.booster.ok = true ∧ runningUp.booster.state = .runUp ∧ runningUp.booster.withdrawalPending = false ∧
    ({ runningUp.booster with withdrawalPending := true } : BoosterRec).ok = true ∧
    ({ runningUp.booster with withdrawalPending := true, queue := [] } : BoosterRec).ok = true ∧
    ({ runningUp.booster with state := .running, boosted := some .d2, timer := none } : BoosterRec).ok = true ∧
    ({ runningUp.booster with state := .aligning } : BoosterRec).ok = true ∧ BoosterRec.cold.ok = true ∧
    ({ BoosterRec.cold with state := .runDown, timer := some 0 } : BoosterRec).ok = true ∧
    ({ BoosterRec.cold with state := .runDown, timer := some 0, queue := [.d2] } : BoosterRec).ok = true ∧
    ({ BoosterRec.cold with state := .fault .runUp } : BoosterRec).ok = true ∧ BoosterRec.cold.contact ≠ some .made := by decide +kernel

/-- GatheringAddsUp: counts below and past their limit, and values at the ends of the ranges. -/
theorem witness_gathering : metered.yard.resetHeld = false ∧ (metered.meter .m3).pulses + (255#8 : Byte).toNat ≤ 65535 ∧
    65535 < ((metered.setMeter .m3 { MeterRec.cold with pulses := 65535 }).meter .m3).pulses + (1#8 : Byte).toNat ∧
    (metered.meter .m3).gaugeCount < 65535 ∧ (metered.meter .m3).tempCount < 65535 ∧ metered.accounts.barometer.count < 65535 ∧
    2700 ≤ 2700 ∧ 3150 ≤ 3150 := by decide +kernel

/-- IntervalEndCreditsEveryMeter, HourEndUpdatesThePeak, DayEndStrikesTheBalance. -/
theorem witness_boundaries : metered.yard.resetHeld = false ∧ metered.yard.clock = some ⟨4127, 63360⟩ ∧
    metered.accounts.day.isSome = true ∧ (metered.creditInputs metered.accounts.barometer.interval .m3).estimated = true ∧
    (metered.accounts.day.bind DayRec.openStock) = some 5412300 ∧ (after (exec .dayEnd metered)).shows .day = true := by decide +kernel

/-- YardSettings, AccountSettings, ScheduleAndFog, FaultsAreCleared, OrdersAreOffered, EndDropAndFin, ClrClearsItsGroup,
AttnFollowsSummaryAndMask: words that each of them refuses RA. -/
theorem witness_refused_words :
    parsePrio ["MAKE".toList] = none ∧ parseHolderNum ["H7".toList, "20".toList] = none ∧ parseMeterNum ["M5".toList, "300".toList] = none ∧
    parseDefaults ["30".toList] = none ∧ parseFog ["D1".toList] = none ∧ parseDistrict "D5".toList = none ∧
    parsePoints ["24:00".toList, "9".toList] = none ∧ parsePoints [] = some [] ∧
    (parsePoints ((List.replicate 9 ["00:00".toList, "9".toList]).flatten)).map List.length = some 9 ∧
    (parsePoints ["00:00".toList, "9".toList, "00:00".toList, "9".toList]).map
      (fun ps => decide (ps.map SchedulePoint.minute).Nodup) = some false ∧
    parseValve ["H1".toList] = none ∧ parseLoad [] = none ∧ parseProve [] = none ∧ parseOneHolder ["h1".toList] = none ∧
    ["1".toList] ≠ ([] : List Text) ∧ parseNum "8".toList = some 8 ∧ 7 < 8 ∧ parseHexByte "7f".toList = none := by decide +kernel

/-- OrdersAreOffered: arguments of both requests at the ends of their ranges, and one beyond each. -/
theorem witness_order_ranges :
    (1 ≤ 1 ∧ 65535 ≤ 65535 ∧ 1000 ≤ 1000 ∧ 16000000 ≤ 16000000 ∧ 1000000 ≤ 1000000) ∧
    parseLoad (splitWords "H3 0 FILL MAKE 1000 HAND 0".toList) = none ∧ parseLoad (splitWords "H3 65536 FILL MAKE 1000 HAND 0".toList) = none ∧
    parseLoad (splitWords "H3 1 FILL D1 1000 HAND 0".toList) = none ∧ parseLoad (splitWords "H3 1 FILL MAKE 999 HAND 0".toList) = none ∧
    parseLoad (splitWords "H3 1 DRAW D4 16000001 HAND 0".toList) = none ∧ parseLoad (splitWords "H3 1 FILL MAKE 1000 HAND 999".toList) = none ∧
    parseLoad (splitWords "H3 1 FILL MAKE 1000 HAND 1000001".toList) = none ∧ parseProve (splitWords "H3 1 100001 30".toList) = none ∧
    parseProve (splitWords "H3 1 0 29".toList) = none ∧ parseProve (splitWords "H3 1 0 721".toList) = none := by decide +kernel

/-- LineEndIsJudged, ReceiverTakesCharacters: the accepted line, with its check digits as the manual's own example has them. -/
theorem witness_line_accepted :
    (State.reset.receive (.digits "FIN".toList "DD".toList)).line.receiver = .digits "FIN".toList "DD".toList ∧
    (State.reset.receive (.digits "FIN".toList "DD".toList)).line.reply = none ∧ "DD".toList = hexByte (checkSum "FIN".toList) ∧
    (State.reset.receive (.digits "FIN".toList "DD".toList)).yard.resetHeld = false := by decide +kernel

/-- AttnFollowsSummaryAndMask: RESET held. -/
theorem witness_attn_released : (after (exec .resetAsserted State.reset)).yard.resetHeld = true := by decide +kernel

/-- A report whose value satisfies a claim, the form in which ReadingsAreHeld and GatheringAddsUp speak of one out of range. -/
theorem of_report {n : Nat} {claim : Nat → Prop} (h : claim n) : ∀ v : Nat, (some n : Option Int) = some (v : Int) → claim v :=
  fun _ e => Int.ofNat.inj (Option.some.inj e) ▸ h

/-- GatheringAddsUp: counts that stand at their limit, and values one beyond each range. -/
theorem witness_gathering_limits :
    let s := metered.setMeter .m3 { MeterRec.cold with gaugeCount := 65535, tempCount := 65535 }
    (65535 ≤ (s.meter .m3).gaugeCount ∧ 65535 ≤ (s.meter .m3).tempCount ∧ s.yard.resetHeld = false) ∧
    (∀ v : Nat, (some 301 : Option Int) = some (v : Int) → 300 < v) ∧ (∀ v : Nat, (some 121 : Option Int) = some (v : Int) → 120 < v) ∧
    (∀ v : Nat, (some 2699 : Option Int) = some (v : Int) → v < 2700 ∨ 3150 < v) ∧
    (∀ v : Nat, (some 3151 : Option Int) = some (v : Int) → v < 2700 ∨ 3150 < v) :=
  ⟨by decide +kernel, of_report (claim := (300 < ·)) (by decide), of_report (claim := (120 < ·)) (by decide),
   of_report (claim := fun v => v < 2700 ∨ 3150 < v) (by decide), of_report (claim := fun v => v < 2700 ∨ 3150 < v) (by decide)⟩

/-- CreditsLoseNothing: the ends of every range. -/
theorem witness_credits : (2700 ≤ 2700 ∧ 3150 ≤ 3150 ∧ 300 ≤ 300 ∧ 120 ≤ 120) ∧ (65535 ≤ 65535 ∧ 100 ≤ 100 ∧ 12701 ≤ 12701 ∧ 9999 ≤ 9999) ∧
    (8323601 ≤ 8323601 ∧ 700 ≤ 700 ∧ 99999 ≤ 99999) := by decide

/-- ChoiceTakesAnEligibleHolder: a ROTATING path with a last served holder, whose own turn comes last. -/
theorem witness_rotation :
    let s := (yardIn .run).setPath .make { (yardIn .run).path .make with lastServed := some .h3 }
    let t : State := { s with settings := { s.settings with priority := s.settings.priority.set .make .rotating } }
    t.settings.priority.get .make = .rotating ∧ (t.path .make).lastServed = some .h3 ∧
    (HolderId.all.dropWhile (· ≠ .h3)).tail ++ HolderId.all.takeWhile (· ≠ .h3) ++ [.h3] = [.h4, .h5, .h6, .h1, .h2, .h3] := by
  decide +kernel

/-- PeriodEndGovernsTheLoading: a tenth unordered period of a district no gauge reports to, and a single gauge. -/
theorem witness_period_flags :
    let s := governed.setDistrict .d1 { governed.district .d1 with unorderedRun := 9, duty := none, check := none }
    let t := governed.setDistrict .d2 { governed.district .d2 with duty := some ⟨30, 0⟩, check := none }
    10 ≤ ((after (exec (.periodEnd .d1) s)).district .d1).unorderedRun ∧
    ((after (exec (.periodEnd .d2) t)).district .d2).pair = some .singleDuty ∧ DistrictId.d1 ≠ .d2 := by decide +kernel

/-! ### Witnesses of the invariants: a yard at work with a reading waiting -/

/-- H3 filling, with its next height report at the front of the queue. -/
def working : State := { filling with pending := [.heightReport .h3 (some 310)] }

theorem working_steps : (match step working with | .next _ => true | _ => false) = true := by decide +kernel

theorem working_settings : working.SettingsOk where
  working :=
    { holders := fun h => by cases h <;> decide +kernel
      pulse := fun m => by cases m <;> decide +kernel
      cv := fun m => by cases m <;> decide +kernel
      lineGauge := by decide +kernel
      lineTemperature := by decide +kernel
      schedule := fun d => by cases d <;> decide +kernel
      governing := fun d => by cases d <;> decide +kernel
      booster := by decide +kernel
      startHour := by decide +kernel }
  store := fun c h => by cases h
  save := fun c h => by cases h

theorem working_valves : working.ValvesOk := fun h side => by cases h <;> cases side <;> decide +kernel

theorem working_orders : working.OrdersOk ∧ working.QuietOutsideRun :=
  ⟨{ slots := fun h => by cases h <;> decide +kernel
     tags := by decide +kernel
     finished := by decide +kernel },
   fun h => absurd rfl h⟩

theorem working_paths : working.PathsOk ∧ working.OpenValvesOk :=
  ⟨{ once := by decide +kernel
     successor := fun p out cause => by
       rcases p with _ | d
       · intro h; cases h
       · cases d <;> intro h <;> cases h
     hold := fun h => by cases h },
   fun h side => by cases h <;> cases side <;> decide +kernel⟩

theorem working_holders : working.HoldersOk := fun h => by cases h <;> decide +kernel

theorem working_street : working.BoosterOk ∧ working.LoadingOk :=
  ⟨{ record := by decide +kernel
     standing := fun d => by cases d <;> decide +kernel },
   { limits := fun d => by cases d <;> decide +kernel
     supply := fun d l h => by cases d <;> cases h }⟩

theorem working_accounts : working.AccountsOk ∧ working.ClockOk :=
  ⟨{ residue := fun m => by cases m <;> decide +kernel
     btu := fun m => by cases m <;> decide +kernel
     pulses := fun m => by cases m <;> decide +kernel
     gauges := fun m => by cases m <;> decide +kernel
     temperatures := fun m => by cases m <;> decide +kernel
     barometer := by decide +kernel },
   { range := fun c h => by cases h; decide +kernel
     day := by decide +kernel }⟩

theorem working_line : working.LineOk where
  receiver := by decide +kernel
  gap := by decide +kernel
  inHand := by decide +kernel

/-! ### Witnesses of the clauses on a yard at work -/

/-- The path laws of a yard outside HOLD, from one check that can be evaluated. -/
theorem pathsOk_of {s : State}
    (check : (decide s.holdersOnPaths.Nodup && s.yard.mode != .hold && PathId.all.all fun p =>
      match (s.path p).state with | .changeover .first none _ _ => false | _ => true) = true) : s.PathsOk := by
  simp only [Bool.and_eq_true, decide_eq_true_eq, bne_iff_ne, List.all_eq_true] at check
  refine ⟨check.1.1, fun p out cause h => ?_, fun h => absurd h check.1.2⟩
  simpa only [h, Bool.false_eq_true] using check.2 p (PathId.mem_all p)

/-- The booster's laws, from one check that can be evaluated. -/
theorem boosterOk_of {s : State}
    (check : (s.booster.ok && DistrictId.all.all fun d => s.booster.agrees d (s.district d)) = true) : s.BoosterOk := by
  rw [Bool.and_eq_true, List.all_eq_true] at check
  exact ⟨check.1, fun d => check.2 d (DistrictId.mem_all d)⟩

/-- The loading law, from one check that can be evaluated. -/
theorem loadingOk_of {s : State}
    (check : (DistrictId.all.all fun d => decide ((s.districtSettings d).governing.minimum ≤ (s.district d).loading) &&
      decide ((s.district d).loading ≤ (s.districtSettings d).governing.maximum) &&
      (s.supplyLimit d).all fun l => decide ((s.district d).loading ≤ l)) = true) : s.LoadingOk := by
  simp only [List.all_eq_true, Bool.and_eq_true, decide_eq_true_eq] at check
  refine ⟨fun d => (check d (DistrictId.mem_all d)).1, fun d l h => ?_⟩
  simpa only [h, Option.all_some, decide_eq_true_eq] using (check d (DistrictId.mem_all d)).2

theorem filling_paths : filling.PathsOk := pathsOk_of (by decide +kernel)

/-- D2 of 8.10 boosted, at the loading it can just have, with D1 queued. -/
def boosting : State :=
  let s := governed.setPathState (.dist .d1) (.granted ⟨.h4, .ordered⟩)
  { s with
    settings := { s.settings with booster := ⟨true, 40, 90, 30⟩ }
    booster := { state := .running, granted := some .d2, boosted := some .d2, withdrawalPending := false, queue := [.d1], timer := none,
                 contact := some .made, start := true, selector := some .d2 } }
    |>.setDistrict .d2 { s.district .d2 with request := .granted, boosted := true, loading := 96, releaseRun := 2 }
    |>.setDistrict .d1 { s.district .d1 with request := .queued, supplying := some .h4, loading := 56 }

theorem boosting_ok : boosting.BoosterOk ∧ boosting.LoadingOk :=
  ⟨boosterOk_of (by decide +kernel), loadingOk_of (by decide +kernel)⟩

/-- ScheduleAndFog: a schedule, a minute at its second point, one before its first, and the unset clock. -/
theorem witness_active_point :
    scheduleOk (governed.districtSettings .d2).schedule = true ∧ (⟨990, 60⟩ : SchedulePoint) ∈ (governed.districtSettings .d2).schedule ∧
    990 ≤ 59400 / 60 ∧ (∀ q ∈ (governed.districtSettings .d2).schedule, 21599 / 60 < q.minute) ∧ State.reset.yard.clock = none := by
  decide +kernel

/-- BoostSetsTheBooster: a disable and a lower head while D2 is boosted and D1 queued, each with a loading that comes down. -/
theorem witness_boost_districts : boosting.Listening ∧ boosting.BoosterOk ∧ boosting.LoadingOk ∧
    parseBoost (splitWords "DISABLE 40 90 30".toList) = some ⟨false, 40, 90, 30⟩ ∧ boosting.settings.booster.enabled = true ∧
    parseBoost (splitWords "ENABLE 20 90 30".toList) = some ⟨true, 20, 90, 30⟩ ∧
    ((after (exec (.boost (splitWords "DISABLE 40 90 30".toList)) boosting)).district .d2).loading < (boosting.district .d2).loading ∧
    ((after (exec (.boost (splitWords "ENABLE 20 90 30".toList)) boosting)).district .d2).loading = 76 ∧ parseBoost [] = none :=
  ⟨⟨rfl, rfl, rfl, rfl⟩, boosting_ok.1, boosting_ok.2, by decide +kernel⟩

/-- A DRAW of 1,000 cu. ft in a state of its own. -/
def drawOn (tag : Nat) (p : PathId) (st : OrderState) (moved : Nat) : Order :=
  { tag := tag, state := st, start := none,
    body := .transfer { path := p, quantity := 1000, atCount := .hand, tallyStep := none, moved := moved, toGo := 1000 - moved,
                        overrun := moved - 1000, backflow := 0, tallyCount := 0, endDue := none, outgoing := false } }

/-- The boosting yard with H3 drawing on D2 with a FILL behind it, H4 STARTING on D1, H2 READY, H6 PROVING, and a valve moving by itself. -/
def busyYard : State :=
  ((((((boosting.setSlots .h3 ⟨some (drawOn 1 (.dist .d2) .running 400), some (Order.newTransfer 2 .make 1000 .hand none)⟩).setSlots
    .h4 ⟨some (drawOn 3 (.dist .d1) .starting 0), none⟩).setActive .h2 (some (Order.newTransfer 4 .make 1000 .stand none))).setActive .h6
      (some { Order.newProving 5 0 30 with
              state := .proving, body := .proving ⟨0, 30, some 700000, some 20⟩ })).setValve .h3 .outlet opened).setValve
    .h4 .outlet { shut with state := .opening .commanded, drive := .driveOpen, timer := some 90 }).setValve
    .h1 .inlet { opened with state := .closing .moved, timer := some 90 }

/-- ModeChangesTheYard: HOLD entry of a yard with orders in each state, valves in each of the three states closed, and the booster on. -/
theorem witness_hold_entry : busyYard.Listening ∧ busyYard.yard.mode = .run ∧ busyYard.BoosterOk ∧
    (busyYard.active .h3).any Order.counting = true ∧ (busyYard.followOn .h3).any (fun f => f.kind != .prove) = true ∧
    (busyYard.active .h4).any (fun o => o.state == .starting) = true ∧ busyYard.followOn .h4 = none ∧
    (busyYard.active .h6).any (fun o => !o.counting && o.state == .proving) = true ∧ busyYard.active .h1 = none ∧
    (busyYard.valve .h3 .outlet).state = .opened ∧ (busyYard.valve .h4 .outlet).state = .opening .commanded ∧
    (busyYard.valve .h1 .inlet).state = .closing .moved ∧ busyYard.booster.queue ≠ [] ∧
    (busyYard.yard.mode ≠ .survey ∧ "HOLDS".toList ≠ "RUN".toList ∧ "HOLDS".toList ≠ "HOLD".toList) :=
  ⟨⟨rfl, rfl, rfl, rfl⟩, by decide +kernel, boosterOk_of (by decide +kernel), by decide +kernel⟩

/-- ClockTrims: a trim of 1 s and of 300 s across the day end, a jump of the gas day by one day and 301 s, back a day, and in RUN, with a
gathering and without, and words out of each range. -/
theorem witness_clock_jumps :
    let s : State := { yardIn .hold with yard := { (yardIn .hold).yard with clock := some ⟨65535, 21599⟩ } }
    s.yard.clock = some ⟨65535, 21599⟩ ∧ parseNum "1".toList = some (if 65535 = 65535 then 1 else 65535 + 1) ∧
    parseSeconds "06:00:00".toList = some 21600 ∧ position 21599 6 + 1 = position 21600 6 + 86400 ∧
    parseSeconds "06:04:59".toList = some 21899 ∧ position 21599 6 + 300 = position 21899 6 + 86400 ∧
    parseSeconds "06:05:00".toList = some 21900 ∧ ¬(position 21900 6 + 86400 ≤ position 21599 6 + 300) ∧
    (65534 ≠ if 65535 = 65535 then 1 else 65535 + 1) ∧ s.yard.mode ≠ .run ∧ s.accounts.day.isSome = true ∧ s.accounts.gathered = false ∧
    metered.markGathered.accounts.gathered = true ∧ (yardIn .run).yard.mode = .run ∧ (1 : Nat) ≠ 65535 ∧
    parseSeconds "24:00:00".toList = none ∧ parseNum "0".toList = some 0 ∧ parseNum "65536".toList = some 65536 ∧ 65535 < 65536 ∧
    (after (exec .dayEnd s)).shows .day = true := by decide +kernel

/-- ClockSecondMovesTheClock: the second that ends a gas day, one that ends another hour, and midnight. -/
theorem witness_boundary_seconds : (21599 + 1) % 360 = 0 ∧ (21599 + 1) % 86400 % 3600 = 0 ∧
    (21599 + 1) % 86400 = (yardIn .run).settings.startHour * 3600 ∧ (63359 + 1) % 86400 % 3600 ≠ 0 ∧ (86399 + 1) % 86400 % 3600 = 0 ∧
    (86399 + 1) % 86400 ≠ (yardIn .run).settings.startHour * 3600 ∧ 63359 < 86400 := by decide +kernel

/-- The settings of a yard with another record for H3. -/
def storing (s : State) (c : HolderSettings) : State := { s with store := some { s.settings with holders := s.settings.holders.set .h3 c } }

/-- WarmRestartKeepsTheYard: a reload that disturbs no holder, with the booster kept and dropped, one that takes H3 OUT, one that changes its
geometry with a height present, and one that loses it. -/
theorem witness_warm_restarts :
    let s : State := { boosting with store := some boosting.settings }
    let off : State := { boosting with store := some { boosting.settings with booster := ⟨false, 40, 90, 30⟩ } }
    (∀ h, s.reloadsAsItStands h = true) ∧ boosting.BoosterOk ∧ boosting.settings.booster.enabled = true ∧
    (∀ h, off.reloadsAsItStands h = true) ∧ off.BoosterOk ∧
    ((after (exec .warmRestart (storing filling { holderOn with service := .outOfService }))).holderSettings .h3).service = .outOfService ∧
    (filling.holderSettings .h3).service = .inService ∧ filling.PathsOk ∧
    ((after (exec .warmRestart (storing filling { holderOn with geometry := some [⟨600, 2400, 40⟩, ⟨300, 2600, 15⟩] }))).holderSettings
      .h3).geometry = some [⟨600, 2400, 40⟩, ⟨300, 2600, 15⟩] ∧ (filling.holderSettings .h3).geometry = some lifts ∧
    (filling.holder .h3).height = some 300 ∧
    ((after (exec .warmRestart filling)).holderSettings .h3).geometry = none ∧
    ((after (exec .warmRestart filling)).holderSettings .h3).stops = none :=
  ⟨fun h => by cases h <;> decide +kernel, boosting_ok.1, rfl, fun h => by cases h <;> decide +kernel, ⟨boosting_ok.1.record, boosting_ok.1.standing⟩,
   by decide +kernel, by decide +kernel, filling_paths, by decide +kernel⟩

/-- HeightReportIsTaken: a first reading, a later one at each margin of a boundary, a change of the carried lifts, a stop entered, a trailing
movement that saturates, and an order that counts within its stops. -/
theorem witness_readings_of_height :
    let stand := filling.updateTransfer (fun t => { t with atCount := .stand }) .h3
    (boundaries 0 lifts)[0]? = some 300 ∧ (State.reset.holder .h3).height = none ∧ ((yardIn .run).holder .h3).cupped[0]? = some true ∧
    (297 + 3 ≤ 300 ∧ ¬ 298 + 3 ≤ 300 ∧ 300 + 3 ≤ 303 ∧ ¬ 300 + 3 ≤ 302) ∧
    ((yardIn .run).holder .h3).carried = some 2 ∧ ((after (exec (.heightReport .h3 (some 296)) (yardIn .run))).holder .h3).carried ≠ some 2 ∧
    ((yardIn .run).holderSettings .h3).stops = some ⟨880, 24⟩ ∧ 880 ≤ 880 ∧ 24 ≤ 24 ∧ ((yardIn .run).holder .h3).atTop = false ∧
    (yardIn .run).active .h3 = none ∧ (stand.active .h3).any Order.counting = true ∧ (transferOf stand .h3).map Transfer.atCount = some .stand ∧
    (transferOf stand .h3).map Transfer.outgoing = some false ∧ ((volumeAt lifts 310 : Int) - 720000 ≠ 0) := by decide +kernel

/-- ContactsAreRecorded: a valve in each state of R22's table. -/
theorem witness_contact_rows :
    let v (st : ValveState) : ValveState := ((yardIn .run).setValve .h3 .inlet { shut with state := st } |>.valve .h3 .inlet).state
    v .unknown = .unknown ∧ v .closed = .closed ∧ v .opened = .opened ∧ v (.opening .commanded) = .opening .commanded ∧
    v (.opening .moved) = .opening .moved ∧ v (.closing .commanded) = .closing .commanded ∧ v (.closing .moved) = .closing .moved ∧
    v (.fault .both) = .fault .both ∧ ((yardIn .run).setValve .h3 .inlet ValveRec.cold |>.valve .h3 .inlet).openC = none := by
  decide +kernel

/-- A changeover of D2 from H3 to H5, STARTING, in stage FIRST; H3 with or without its order, with or without an outgoing cause. -/
def changing (order : Bool) (cause : Option EndDue) : State :=
  let s := ((governed.setActive .h5 (some (drawOn 7 (.dist .d2) .starting 0))).setPathState (.dist .d2)
    (.changeover .first (some ⟨.h5, .ordered⟩) .h3 cause)).setValve .h3 .outlet opened
  let s := s.setValve .h5 .outlet { opened with lastChange := none }
  if order then
    (s.setActive .h3 (some (drawOn 8 (.dist .d2) .overrun 1400))).updateTransfer (fun t => { t with outgoing := true, endDue := cause }) .h3
  else s

/-- ContactsAreRecorded: a start confirmed on a granted path, and in stage FIRST with and without an outgoing order; a close confirmed that
ends stage SECOND; an adoption, and each of its bars. -/
theorem witness_confirmed :
    (changing true none).servedBy .h5 (PathId.side (.dist .d2)) = some (.dist .d2) ∧
    ((changing true none).active .h5).map (fun o => (o.path, o.state)) = some (some (.dist .d2), .starting) ∧
    ((changing true none).path (.dist .d2)).state = .changeover .first (some ⟨.h5, .ordered⟩) .h3 none ∧ HolderId.h3 ≠ .h5 ∧
    ((changing true none).valve .h3 (PathId.side (.dist .d2))).state = .opened ∧
    ((changing true none).active .h3).any Order.outgoing = true ∧ (changing false none).hasOutgoing .h3 = false ∧
    (let s := (changing false none).setPathState (.dist .d2) (.granted ⟨.h5, .ordered⟩)
     s.servedBy .h5 .outlet = some (.dist .d2) ∧ (s.path (.dist .d2)).state = .granted ⟨.h5, .ordered⟩) ∧
    (let s := (changing false none).setPathState (.dist .d2) (.changeover .second (some ⟨.h5, .ordered⟩) .h3 none)
     s.servedBy .h3 .outlet = some (.dist .d2)) ∧
    (yardIn .run).servedBy .h3 .outlet = none := by decide +kernel

/-- ContactsAreRecorded: a yard in which H3's outlet can be adopted, and one for each bar. -/
theorem witness_adoptions :
    let s := yardIn .survey
    (pathsOf .outlet).find? (fun q => (s.path q).state = .empty) = some (.dist .d1) ∧ s.yard.mode = .survey ∧
    (s.holderSettings .h3).service = .inService ∧ (s.holder .h3).lost = false ∧ s.active .h3 = none ∧ (s.holder .h3).atStop (.dist .d1) = false ∧
    (s.valve .h3 Side.outlet.sister).state.openingOrOpen = false ∧ s.onPath .h3 = false ∧
    (∀ q ∈ pathsOf .inlet, ((s.setPathState .make (.granted ⟨.h1, .adopted⟩)).path q).state ≠ .empty) ∧ (yardIn .run).yard.mode ≠ .survey ∧
    (State.reset.holderSettings .h3).service = .outOfService ∧
    ((s.setHolder .h3 { standing 298 true with lost := true }).holder .h3).lost = true ∧
    (proving.active .h3).any (fun o => o.kind == .prove) = true ∧
    ((s.setHolder .h3 { standing 880 true with atTop := true }).holder .h3).atTop = true ∧ (adoptedLow.holder .h5).atLow = true ∧
    ((s.setValve .h3 .inlet opened).valve .h3 Side.outlet.sister).state.openingOrOpen = true ∧ adoptedLow.onPath .h5 = true ∧
    (adoptedLow.servedBy .h5 .outlet = some (.dist .d2) ∧ adoptedLow.servedBy .h3 .outlet = none) := by decide +kernel

/-- ChoiceTakesAnEligibleHolder: a start, a take-over at a stop and away from it, a give-way from an adopted and from a yielding holder, a
continuation, and the paths whose choice is nothing. -/
theorem witness_choices :
    let ready (s : State) (h : HolderId) := s.setActive h (some (drawOn 20 (.dist .d2) .ready 0))
    let start := ready (yardIn .run) .h4
    let adopted := ready ((yardIn .run).setPathState (.dist .d2) (.granted ⟨.h3, .adopted⟩)) .h4
    let taking := ready ((yardIn .run).setPathState (.dist .d2) (.granted ⟨.h3, .adopted⟩)) .h3
    let yield := ready (((yardIn .run).setPathState (.dist .d2) (.granted ⟨.h3, .ordered⟩)).setActive .h3
      (some (drawOn 21 (.dist .d2) .overrun 1400))) .h4
    let behind := yield.setFollowOn .h3 (some { drawOn 22 (.dist .d2) .ready 0 with state := .pending })
    ((start.path (.dist .d2)).state = .empty ∧ start.choose (.dist .d2) = some .h4) ∧
    (taking.yard.mode = .run ∧ (taking.path (.dist .d2)).state = .granted ⟨.h3, .adopted⟩ ∧
      (taking.active .h3).map (fun o => (o.state, o.path)) = some (.ready, some (.dist .d2))) ∧
    ((taking.setHolder .h3 { standing 20 false with atLow := true }).holder .h3).atLow = true ∧
    ((adopted.path (.dist .d2)).state = .granted ⟨.h3, .adopted⟩ ∧ adopted.readyOn .h3 (.dist .d2) = false ∧
      adopted.choose (.dist .d2) = some .h4 ∧ adopted.active .h3 = none) ∧
    ((yield.path (.dist .d2)).state = .granted ⟨.h3, .ordered⟩ ∧ (yield.active .h3).any Order.yielding = true ∧
      yield.followsOn .h3 (.dist .d2) = false ∧ yield.choose (.dist .d2) = some .h4) ∧
    ((behind.followOn .h3).bind Order.path = some (.dist .d2) ∧ (behind.active .h3).any Order.yielding = true) ∧
    (((yardIn .run).path (.dist .d2)).state = .empty ∧ (yardIn .run).choose (.dist .d2) = none) ∧
    ((filling.path .make).state = .granted ⟨.h3, .ordered⟩ ∧ (filling.active .h3).all (fun y => !y.yielding) = true ∧
      filling.choose .make = none ∧ filling.followsOn .h3 .make = false) ∧
    ((changing true none).path (.dist .d2)).state = .changeover .first (some ⟨.h5, .ordered⟩) .h3 none := by decide +kernel

theorem changing_paths : (changing true none).PathsOk ∧ (changing false (some .lowed)).PathsOk ∧ (changing true (some .ended)).PathsOk :=
  ⟨pathsOk_of (by decide +kernel),
   pathsOk_of (by decide +kernel),
   pathsOk_of (by decide +kernel)⟩

/-- ChoiceTakesAnEligibleHolder: an end handed over and one at once, and a valve lost in each role: granted, served in stage SECOND, outgoing,
and incoming with another successor, with none, and with none and a cause. -/
theorem witness_lost_valves :
    filling.PathsOk ∧ (filling.path .make).state = .granted ⟨.h3, .ordered⟩ ∧ filling.choose .make = none ∧
    (let s := filling.setActive .h4 (some (Order.newTransfer 9 .make 1000 .hand none))
     s.choose .make = some .h4 ∧ (s.active .h3).any Order.counting = true) ∧
    (let u := ((((changing true none).setPathState (.dist .d2) (.changeover .first none .h3 none)).closeValve .h5 .outlet).provingLook .h5)
     u.choose (.dist .d2) = none ∧
     (u.setActive .h4 (some (drawOn 30 (.dist .d2) .ready 0))).choose (.dist .d2) = some .h4) ∧
    (changing true none).hasOutgoing .h3 = true ∧ ((changing true (some .ended)).active .h3).any Order.outgoing = true ∧
    (changing false (some .lowed)).active .h3 = none ∧
    (let s := (changing false none).setPathState (.dist .d2) (.changeover .second (some ⟨.h5, .ordered⟩) .h3 none)
     s.holdersOnPaths.Nodup ∧ (s.path (.dist .d2)).state = .changeover .second (some ⟨.h5, .ordered⟩) .h3 none) :=
  ⟨filling_paths, by decide +kernel⟩

/-- PeriodEndGovernsTheLoading: D2 boosted with its run below 5 and at 5, with D1 queued and with none; and a request from OFF with the
contact broken and made, in RUN-UP with a withdrawal pending, behind another district, and where none is made. -/
theorem witness_period_requests :
    let high (n : Nat) := boosting.setDistrict .d2 { boosting.district .d2 with loading := 40, releaseRun := n, duty := some ⟨100, 0⟩, check := none }
    let low := governed.setDistrict .d2 { governed.district .d2 with loading := 56, duty := some ⟨10, 0⟩, check := none }
    let asks (b : BoosterRec) : State := { low with settings := { low.settings with booster := ⟨true, 40, 90, 30⟩ }, booster := b }
    let up : BoosterRec := { runningUp.booster with queue := [] }
    (high 1).BoosterOk ∧ (high 4).BoosterOk ∧ (high 4).LoadingOk ∧ (asks BoosterRec.cold).BoosterOk ∧ (asks BoosterRec.cold).LoadingOk ∧
    (asks { up with withdrawalPending := true }).BoosterOk ∧ (asks { BoosterRec.cold with state := .runDown, timer := some 60 }).BoosterOk ∧
    ((after (exec (.periodEnd .d2) (high 1))).district .d2).releaseRun = 2 ∧ ((high 4).unboosted .d2) = some 56 ∧
    (asks BoosterRec.cold).supplyLimit .d2 = some 56 ∧ (asks BoosterRec.cold).available .d2 = some 56 ∧
    56 < ((asks BoosterRec.cold).districtSettings .d2).governing.maximum ∧ (asks BoosterRec.cold).yard.mode = .run ∧
    ((asks BoosterRec.cold).district .d2).request = .none ∧
    ((after (exec (.periodEnd .d2) (asks BoosterRec.cold))).booster.state = .runUp) ∧
    ((after (exec (.periodEnd .d2) (asks { BoosterRec.cold with contact := some .made }))).booster.state = .running) ∧
    ((after (exec (.periodEnd .d2) (asks { up with withdrawalPending := true }))).booster.withdrawalPending = false) ∧
    ((after (exec (.periodEnd .d2) (asks { BoosterRec.cold with state := .runDown, timer := some 60 }))).booster.queue = [.d2]) ∧
    ((after (exec (.periodEnd .d2) (high 4))).booster.state = .aligning) ∧
    ((after (exec (.periodEnd .d2) { low with settings := { low.settings with booster := ⟨false, 40, 90, 30⟩ } })).district .d2).request =
      .none :=
  ⟨boosterOk_of (by decide +kernel), boosterOk_of (by decide +kernel),
   loadingOk_of (by decide +kernel), boosterOk_of (by decide +kernel),
   loadingOk_of (by decide +kernel), boosterOk_of (by decide +kernel),
   boosterOk_of (by decide +kernel), by decide +kernel⟩

/-- IntervalEndCreditsEveryMeter, DayEndStrikesTheBalance: readings of each kind and none, and a snapshot complete and not, with an open
stock and without. -/
theorem witness_accounts :
    0 < (metered.meter .m3).gaugeCount ∧ ¬ 0 < (metered.meter .m3).tempCount ∧ 0 < metered.accounts.barometer.count ∧
    ¬ 0 < (yardIn .run).accounts.barometer.count ∧ (metered.accounts.day.bind DayRec.openStock).isSome = true ∧
    (after (exec (.clock ["4127".toList, "17:00:00".toList]) State.reset)).accounts.day.isSome = true ∧
    metered.stock .h3 ≠ none ∧ (metered.setHolder .h3 (HolderRec.cold holderOn)).stock .h3 = none ∧
    (metered.holderSettings .h3).service = .inService := by decide +kernel

/-! ### Witnesses of the widened clauses -/

/-- GeomReplacesTheGeometry: with no height, with no geometry before, barred by a PROVING order and by the stops of an IN holder, a stop entered
and one dropped. -/
theorem witness_geom_clauses :
    let s := yardIn .survey
    let two : List Lift := [⟨150, 2400, 45⟩, ⟨150, 2600, 15⟩]
    let near := s.setHolderSettings .h3 { holderOn with stops := some ⟨298, 24⟩ }
    (s.setHolder .h3 (HolderRec.cold holderOn) |>.holder .h3).height = none ∧ (State.reset.holderSettings .h3).geometry = none ∧
    ({ proving with yard := { proving.yard with mode := .survey } } : State).geomBarred .h3 lifts = true ∧
    s.geomBarred .h3 two = true ∧ totalTravel two = 300 ∧ ¬880 ≤ 300 ∧
    near.geomBarred .h3 two = false ∧ (near.holder .h3).atTop = false ∧ (near.holder .h3).height = some 298 ∧
    (s.setHolderSettings .h3 { holderOn with service := .outOfService }).geomBarred .h3 two = false ∧
    (⟨880, 24⟩ : Stops).fit 300 = false := by decide +kernel

/-- GeomReplacesTheGeometry: lifts at each end of the ranges of R3, and one beyond each; steps that sum to 300 and to 301; counts of 0, 4 and
5; and words that are too few. -/
theorem witness_geom_words :
    let geom (line : String) := parseGeom (splitWords line.toList)
    geom "H3 1 60 100 10" = some (.h3, [⟨60, 100, 10⟩]) ∧ geom "H3 1 480 9999 100" = some (.h3, [⟨480, 9999, 100⟩]) ∧
    (geom "H3 4 60 100 75 60 100 75 60 100 75 60 100 75").isSome = true ∧
    (∀ line ∈ ["H3 1 59 100 10", "H3 1 481 100 10", "H3 1 60 99 10", "H3 1 60 10000 10", "H3 1 60 100 9", "H3 1 60 100 101", "H3 0",
        "H3 4 60 100 75 60 100 75 60 100 75 60 100 76", "H3 5 60 100 10 60 100 10 60 100 10 60 100 10 60 100 10", "H3 2 60 100 10",
        "H3 1 60 100", "H3"], geom line = none) ∧
    parseLifts ["60".toList, "100".toList] = none ∧ parseGeom [] = none := by decide +kernel

/-- A yard in SURVEY with D2 standing in a path state. -/
def surveying (p : PathState) : State := (yardIn .survey).setPathState (.dist .d2) p

theorem surveying_paths : (surveying (.granted ⟨.h3, .adopted⟩)).PathsOk ∧
    (surveying (.changeover .first (some ⟨.h5, .adopted⟩) .h3 none)).PathsOk ∧
    (surveying (.changeover .second (some ⟨.h3, .adopted⟩) .h5 none)).PathsOk :=
  ⟨pathsOk_of (by decide +kernel),
   pathsOk_of (by decide +kernel),
   pathsOk_of (by decide +kernel)⟩

/-- ServicePlacesTheHolder: OUT of a holder granted, outgoing in stage FIRST, and granted in stage SECOND. -/
theorem witness_service_out :
    let g := surveying (.granted ⟨.h3, .adopted⟩)
    g.Listening ∧ g.yard.mode ≠ .run ∧ (g.holderSettings .h3).service = .inService ∧ g.active .h3 = none ∧ g.followOn .h3 = none ∧
    (g.path (.dist .d2)).state = .granted ⟨.h3, .adopted⟩ ∧
    ((surveying (.changeover .first (some ⟨.h5, .adopted⟩) .h3 none)).path (.dist .d2)).state =
      .changeover .first (some ⟨.h5, .adopted⟩) .h3 none ∧
    ((surveying (.changeover .second (some ⟨.h3, .adopted⟩) .h5 none)).path (.dist .d2)).state =
      .changeover .second (some ⟨.h3, .adopted⟩) .h5 none := ⟨⟨rfl, rfl, rfl, rfl⟩, by decide +kernel⟩

/-- SERVICE OUT commands both valves closed and leaves the path EMPTY (R5, R82). -/
theorem test_service_out :
    let t := after (exec (.service ["H3".toList, "OUT".toList]) ((surveying (.granted ⟨.h3, .adopted⟩)).setValve .h3 .outlet opened))
    (t.valve .h3 .outlet).state = .closing .commanded ∧ (t.path (.dist .d2)).state = .empty ∧
    (t.path (.dist .d2)).unserved = true := by decide +kernel

/-- ModeChangesTheYard: the survey conditions met, and each of them wanting. -/
theorem witness_survey :
    let s := yardIn .survey
    s.surveyed = true ∧ s.yard.mode = .survey ∧ ({ s with yard := { s.yard with clock := none } } : State).surveyed = false ∧
    State.reset.surveyed = false ∧ (s.setHolder .h3 (HolderRec.cold holderOn)).surveyed = false ∧
    (s.setHolder .h3 { standing 298 true with lost := true }).surveyed = false ∧
    (s.setValve .h3 .outlet ValveRec.cold).surveyed = false ∧ (yardIn .run).yard.mode ≠ .survey := by decide +kernel

/-- The yard before its first CLOCK. -/
def clockless : State :=
  { yardIn .survey with
    yard := { (yardIn .survey).yard with clock := none }, accounts := { (yardIn .survey).accounts with day := none } }

/-- FirstClockOpensTheDay: every stock present, and one absent. -/
theorem witness_first_stocks :
    clockless.Listening ∧ clockless.yard.clock = none ∧ clockless.yard.mode = .survey ∧
    (∀ h ∈ HolderId.all, (clockless.holderSettings h).service = .inService ∧ clockless.stock h ≠ none) ∧
    ((clockless.setHolder .h3 { standing 298 true with temperature := none }).holderSettings .h3).service = .inService ∧
    (clockless.setHolder .h3 { standing 298 true with temperature := none }).stock .h3 = none := ⟨⟨rfl, rfl, rfl, rfl⟩, by decide +kernel⟩

/-- The first CLOCK of a yard whose survey wanted only the clock ends the survey (R170), with its open stock taken (R123). -/
theorem test_first_clock_ends_survey :
    let t := after (exec (.clock ["1".toList, "17:00:00".toList]) clockless)
    t.yard.mode = .run ∧ t.flags.get (.yard .mode) = true ∧
    (t.accounts.day.bind DayRec.openStock) = some (6 * stockOf 715200 (factor 3000 60 45)) ∧ volumeAt lifts 298 = 715200 := by decide +kernel

/-- ClockTrims: the runs of seconds of its last clauses. -/
theorem witness_advances : (yardIn .run).yard.clock = some ⟨4127, 61200⟩ ∧ 61200 < 86400 ∧ (yardIn .run).settings.startHour ≤ 23 ∧
    position 61200 6 + 300 = position 61500 6 ∧ 21599 < 86400 ∧ position 21599 6 + 300 = position 21899 6 + 86400 := by decide +kernel

/-- HeightReportIsTaken: a report in SURVEY that ends it, with no order running. -/
theorem witness_survey_report :
    let s := (yardIn .survey).setHolder .h3 (HolderRec.cold holderOn)
    s.surveyed = false ∧ (after (exec (.heightReport .h3 (some 298)) s)).yard.mode = .run ∧ s.yard.mode = .survey ∧
    (∀ h ∈ HolderId.all, s.active h = none) := by decide +kernel

/-- LossMakesTheHolderLost: a STARTING, a RUNNING, a PROVING and a READY order and none, with no adopted flow; and an outgoing order. -/
theorem witness_loss_orders :
    let starting := ((yardIn .run).setActive .h5 (some (drawOn 7 (.dist .d2) .starting 0))).setPathState (.dist .d2) (.granted ⟨.h5, .ordered⟩)
    starting.PathsOk ∧ filling.PathsOk ∧ (changing true none).PathsOk ∧
    ((starting.active .h5).map fun o => (o.state, o.path)) = some (.starting, some (.dist .d2)) ∧
    (starting.holder .h5).lossTimer = some 30 ∧ (starting.holder .h5).lost = false ∧
    (filling.active .h3).any Order.counting = true ∧
    (∀ p ∈ PathId.all, (starting.path p).state.grant ≠ some ⟨.h5, .adopted⟩ ∧ (filling.path p).state.grant ≠ some ⟨.h3, .adopted⟩) ∧
    (PathId.all.all fun p => match (starting.path p).state, (filling.path p).state with
      | .changeover _ _ _ _, _ | _, .changeover _ _ _ _ => false
      | _, _ => true) = true ∧
    ((proving.active .h3).map Order.state = some .proving ∧ (∀ p ∈ PathId.all, (proving.path p).state = .empty)) ∧
    ((yardIn .run).setActive .h3 (some (drawOn 20 (.dist .d2) .ready 0)) |>.active .h3).map Order.state = some .ready ∧
    (yardIn .run).active .h3 = none ∧
    ((changing true none).active .h3).any (fun o => o.counting && o.outgoing) = true ∧
    (∀ p ∈ PathId.all, ((changing true none).path p).state.grant ≠ some ⟨.h3, .adopted⟩) :=
  ⟨pathsOk_of (by decide +kernel), filling_paths, changing_paths.1, by decide +kernel⟩

/-- LossMakesTheHolderLost: an adopted flow with a holder eligible and with none, one granted in stage SECOND and one as the successor in stage
FIRST, and a holder going out without an order. -/
theorem witness_loss_adopted :
    let alone := (yardIn .run).setPathState (.dist .d2) (.granted ⟨.h3, .adopted⟩)
    let asked := alone.setActive .h4 (some (drawOn 20 (.dist .d2) .ready 0))
    alone.PathsOk ∧ asked.PathsOk ∧ alone.active .h3 = none ∧ (alone.path (.dist .d2)).state = .granted ⟨.h3, .adopted⟩ ∧
    asked.choose (.dist .d2) = some .h4 ∧ (asked.active .h4).isSome = true ∧ (∀ k ∈ HolderId.all, alone.eligible (.dist .d2) k = false) ∧
    (alone.holder .h3).lossTimer = some 30 ∧ (alone.holder .h3).lost = false ∧
    (surveying (.changeover .second (some ⟨.h3, .adopted⟩) .h5 none)).active .h3 = none ∧
    (surveying (.changeover .first (some ⟨.h5, .adopted⟩) .h3 none)).active .h5 = none ∧
    (surveying (.changeover .first (some ⟨.h5, .adopted⟩) .h3 none)).hasOutgoing .h3 = false :=
  ⟨pathsOk_of (by decide +kernel), pathsOk_of (by decide +kernel),
   by decide +kernel⟩

/-- ReadingsAreHeld: an opening snapshot taken, and each case in which none is. -/
theorem witness_snapshot :
    let s := yardIn .run
    let opening : State := { s with accounts := { s.accounts with day := some (DayRec.fresh 4127 .boundary none none false) } }
    (opening.accounts.day.map DayRec.openStock) = some none ∧
    (∀ k ∈ HolderId.all, (opening.holderSettings k).service = .inService ∧ opening.stock k ≠ none) ∧
    opening.openingSnapshot ≠ opening ∧
    ((opening.setHolderSettings .h1 { holderOn with service := .outOfService }).holderSettings .h1).service = .outOfService ∧
    (s.accounts.day.bind DayRec.openStock) = some 5412300 ∧ State.reset.accounts.day = none ∧
    (opening.setHolder .h3 { standing 298 true with temperature := none }).stock .h3 = none := by decide +kernel

/-- StrokeTimerFaultsTheValve: a fault of the valve of a STARTING and of a RUNNING order, under a PROVING one, on the other side and with no
order; and a moved shut of each kind. -/
theorem witness_valve_faults :
    ((filling.active .h3).map fun o => (o.path, o.counting)) = some (some .make, true) ∧ PathId.side .make = .inlet ∧ Side.inlet ≠ .outlet ∧
    (((changing true none).active .h5).map fun o => (o.path, o.state)) = some (some (.dist .d2), .starting) ∧
    PathId.side (.dist .d2) = .outlet ∧ ((proving.active .h3).map fun o => (o.state, o.kind)) = some (.proving, .prove) ∧
    (yardIn .run).active .h3 = none ∧
    (((yardIn .run).setActive .h3 (some (drawOn 20 (.dist .d2) .ready 0)) |>.active .h3).map fun o => (o.counting, o.state)) =
      some (false, .ready) := by decide +kernel

/-- EndDropAndFin: an order followed on its own path, one that is not, an outgoing one without and with an end due, one that only goes out
with the path's cause open, and the slots that no end reaches. -/
theorem witness_end_due :
    let behind := filling.setFollowOn .h3 (some { Order.newTransfer 22 .make 1000 .hand none with state := .pending })
    (behind.followOn .h3).bind Order.path = some .make ∧ behind.followsOn .h3 .make = true ∧
    (transferOf behind .h3).map (fun u => (u.path, u.outgoing)) = some (.make, false) ∧ (behind.active .h3).any Order.counting = true ∧
    filling.followsOn .h3 .make = false ∧
    (transferOf (changing true none) .h3).map (fun u => (u.outgoing, u.endDue)) = some (true, none) ∧
    ((changing true none).active .h3).any Order.counting = true ∧
    ((changing true none).path (.dist .d2)).state = .changeover .first (some ⟨.h5, .ordered⟩) .h3 none ∧
    (transferOf (changing true (some .ended)) .h3).map (fun u => (u.outgoing, u.endDue)) = some (true, some .ended) ∧
    filling.active .h1 = none ∧ (proving.active .h3).any (fun o => o.kind == .prove && !o.counting) = true ∧
    (((changing true none).active .h5).map fun o => (o.path, o.state)) = some (some (.dist .d2), .starting) := by decide +kernel

/-- ProvingHasItsOutcome: an isolated READY PROVE order with a stock and without one, and the looks that change nothing. -/
theorem witness_proving_look :
    let s := (yardIn .run).setActive .h3 (some (Order.newProving 61 5000 240))
    s.isolated .h3 = true ∧ (s.active .h3).map Order.state = some .ready ∧ (s.active .h3).any (fun o => o.kind == .prove) = true ∧
    s.stock .h3 ≠ none ∧
    (let t := s.setHolder .h3 { standing 298 true with temperature := none }
     t.isolated .h3 = true ∧ t.stock .h3 = none) ∧
    (s.setValve .h3 .inlet opened).isolated .h3 = false ∧ (s.setPathState .make (.granted ⟨.h3, .adopted⟩)).isolated .h3 = false ∧
    (s.setHolder .h3 { standing 298 true with lost := true }).isolated .h3 = false ∧ s.active .h1 = none ∧
    (proving.active .h3).any (fun o => o.state != .ready) = true := by decide +kernel

/-- ChoiceTakesAnEligibleHolder: an eligible holder, and each condition of R67 wanting; a path left EMPTY; and an end in stage SECOND. -/
theorem witness_eligible :
    let s := (yardIn .run).setActive .h5 (some (drawOn 20 (.dist .d2) .ready 0))
    let d := PathId.dist .d2
    let second := ((changing false none).setPathState d (.changeover .second (some ⟨.h5, .ordered⟩) .h3 none)).setActive .h5
      (some (drawOn 7 d .running 10))
    second.PathsOk ∧ s.eligible d .h5 = true ∧ s.eligible (.dist .d1) .h5 = false ∧
    ({ s with yard := { s.yard with mode := .hold } } : State).eligible d .h5 = false ∧
    (s.setHolderSettings .h5 { holderOn with service := .outOfService }).eligible d .h5 = false ∧
    (s.setHolder .h5 { standing 298 true with lost := true }).eligible d .h5 = false ∧
    (s.setHolder .h5 { standing 20 false with atLow := true }).eligible d .h5 = false ∧
    (s.setHolder .h5 { standing 880 true with atTop := true }).eligible d .h5 = true ∧
    (s.setValve .h5 .outlet ValveRec.cold).eligible d .h5 = false ∧ (s.setValve .h5 .inlet opened).eligible d .h5 = false ∧
    (s.setValve .h5 .inlet { shut with state := .opening .commanded }).eligible d .h5 = false ∧
    (s.setValve .h5 .inlet { opened with state := .closing .commanded }).eligible d .h5 = true ∧
    (s.setPathState .make (.granted ⟨.h5, .adopted⟩)).eligible d .h5 = false ∧
    (((yardIn .run).choiceOn d).path d).state = .empty ∧
    (second.path d).state = .changeover .second (some ⟨.h5, .ordered⟩) .h3 none ∧ (second.active .h5).isSome = true :=
  ⟨pathsOk_of (by decide +kernel), by decide +kernel⟩

/-- ColdStartAndReset: a cold start that loads a geometry, and one that loads none. -/
theorem witness_cold_starts :
    let s : State := { filling with store := some filling.settings }
    (((after (exec (.coldStart false) s)).holderSettings .h3).geometry = some lifts) ∧
    (((after (exec (.coldStart false) filling)).holderSettings .h3).geometry = none) := by decide +kernel

/-- StepTakesTheFrontCommand: a second with a due expiry and one without, with timers of each kind running, and time while RESET is held. -/
theorem witness_time :
    let s := { yardIn .run with booster := runningUp.booster }.setValve .h3 .inlet { ValveRec.cold with timer := some 90 }
    let t := s.setActive .h3 (proving.active .h3)
    s.yard.resetHeld = false ∧ s.due = [] ∧ (s.holder .h3).temperature ≠ none ∧ State.reset.due = [] ∧
    (State.reset.holder .h3).temperature = none ∧ t.due = [.provingTimerExpiry .h3] ∧ filling.due = [] ∧
    ((filling.active .h3).map Order.kind) = some .fill ∧ (after (exec .resetAsserted s)).yard.resetHeld = true ∧
    (s.setHolder .h3 { standing 298 true with temperatureAge := 601 }).due = [.holderTemperatureStale .h3] ∧
    (s.setHolder .h3 { standing 298 true with temperatureAge := 600 }).due = [] ∧
    (s.setBooster { runningUp.booster with timer := some 0 }).due = [.runUpExpiry] ∧
    (s.setDistrict .d2 { s.district .d2 with periodTimer := 0 }).due = [.periodEnd .d2] := by decide +kernel

/-- ReadsChangeNothing, GatheringAddsUp, YardSettings: no closed day, a full barometer count, and an hour beyond the range. -/
theorem witness_small_ranges :
    State.reset.accounts.closed = none ∧
    65535 ≤ ({ metered.accounts.barometer with count := 65535 } : Barometer).count ∧ 2700 ≤ 3150 ∧ metered.yard.resetHeld = false ∧
    parseNum "24".toList = some 24 ∧ 23 < 24 ∧ (yardIn .hold).yard.mode ≠ .run ∧ (yardIn .run).yard.mode = .run := by decide +kernel

/-- WarmRestartKeepsTheYard: a geometry kept with another stroke limit, service and stops. -/
theorem witness_geometry_kept :
    let c : HolderSettings := { holderOn with stops := some ⟨300, 24⟩, strokeLimit := 33 }
    let t := after (exec .warmRestart (storing filling c))
    (t.holderSettings .h3).geometry = (filling.holderSettings .h3).geometry ∧ (t.holderSettings .h3).geometry.isSome = true ∧
    t.holderSettings .h3 ≠ filling.holderSettings .h3 ∧ (t.holder .h3).height = some 300 ∧ (t.holder .h3).atTop = true := by
  decide +kernel

/-- ContactsAreRecorded, ChoiceTakesAnEligibleHolder: a moved stroke of the outgoing holder of stage SECOND that has returned to OPEN, and a
valve that serves no such path. -/
theorem witness_outgoing_second :
    let d := PathId.dist .d2
    let s := (changing false none).setPathState d (.changeover .second (some ⟨.h5, .ordered⟩) .h3 none)
    s.servedBy .h3 .outlet = some d ∧ (s.path d).state = .changeover .second (some ⟨.h5, .ordered⟩) .h3 none ∧
    (s.valve .h3 .outlet).state = .opened ∧ s.servedBy .h1 .outlet = none ∧
    ((s.returnedOpen .h3 .outlet).valve .h3 .outlet).state = .closing .commanded := by decide +kernel

/-- CommandsMoveValves: a stroke of each direction and origin, between its ends and with the far end recorded already. -/
theorem witness_redirected :
    let v (st : ValveState) : ValveRec := { shut with state := st, openC := some .broken, shutC := some .broken }
    ((v (.opening .moved)).openCommand 90 none false).2 = .carriedOut ∧ ((v (.closing .commanded)).openCommand 90 none false).2 = .carriedOut ∧
    (({ opened with state := .closing .moved } : ValveRec).openCommand 90 none false).2 = .strokeEnded ∧
    ((v (.closing .moved)).closeCommand 90 none).2 = .carriedOut ∧
    (({ shut with state := .opening .commanded } : ValveRec).closeCommand 90 none).2 = .strokeEnded := by decide +kernel

/-- BoosterTimersRunOut: a run-down with D2 queued, the contact recorded broken and made. -/
theorem witness_run_down :
    let waits (c : Contact) : State :=
      { governed with booster := { BoosterRec.cold with state := .runDown, timer := some 0, queue := [.d2], contact := some c } }
        |>.setDistrict .d2 { governed.district .d2 with request := .queued }
    (waits .made).BoosterOk ∧ (waits .broken).BoosterOk ∧ (waits .made).booster.ok = true ∧ (waits .made).booster.contact = some .made ∧
    (waits .broken).booster.contact ≠ some .made ∧ (after (exec .runDownExpiry (waits .made))).booster.boosted = some .d2 :=
  ⟨boosterOk_of (by decide +kernel), boosterOk_of (by decide +kernel), by decide +kernel⟩

end Sys2Proof.Tests
end

section
/-!
SUPPORT. Transfer orders (chapter 3): the rules of a request on a listening line, of the order slots and of the end of an order, and from
them the statements on LOAD and PROVE, END, DROP and FIN, and the record that an ended order leaves.
-/
namespace Sys2Proof

/-- A second write of the same entry is the one that stands. -/
@[simp] theorem HolderTable.set_set {α : Type} (t : HolderTable α) (h : HolderId) (a b : α) : (t.set h a).set h b = t.set h b :=
  HolderTable.ext_get fun i => by simp only [HolderTable.get_set]; split <;> rfl

end Sys2Proof

namespace Sys2Proof.Machine

/-! ### A request on a listening line -/

/-- A request that its block refuses on a listening line is turned down with the block's code (R184, R185). -/
theorem State.takeRequest_refuse {s : State} (hl : s.Listening) {verb : Text} {args : List Text} {isYard : Bool}
    {work : State → Answer} {code : OutcomeCode} (hw : work (s.receive .idle) = .refuse code) :
    s.takeRequest verb args isYard work = s.refusedWith verb args code := by
  rw [State.takeRequest_listening hl, hw, State.reply_refuse]

/-- A request carried out without a clamp on a listening line leaves the block's state with an OK reply begun (R184, R186). -/
theorem State.takeRequest_done {s t : State} (hl : s.Listening) {verb : Text} {args data : List Text} {isYard : Bool}
    {work : State → Answer} (hw : work (s.receive .idle) = .done false data t) :
    s.takeRequest verb args isYard work = t.sendReply verb args .ok data := by
  rw [State.takeRequest_listening hl, hw, State.reply_done, if_neg Bool.false_ne_true]

theorem exec_load (args : List Text) (s : State) : exec (.load args) s = .next (s.takeRequest loadVerb args false (loadAnswer args)) := rfl

theorem exec_prove (args : List Text) (s : State) :
    exec (.prove args) s = .next (s.takeRequest proveVerb args false (proveAnswer args)) := rfl

theorem exec_endOrder (args : List Text) (s : State) :
    exec (.endOrder args) s = .next (s.takeRequest endVerb args false (endAnswer args)) := rfl

theorem exec_drop (args : List Text) (s : State) : exec (.drop args) s = .next (s.takeRequest dropVerb args false (dropAnswer args)) := rfl

theorem exec_fin (args : List Text) (s : State) : exec (.fin args) s = .next (s.takeRequest finVerb args false (finAnswer args)) := rfl

/-! ### The order slots (3.1) -/

@[simp] theorem State.setSlots_setSlots (s : State) (h : HolderId) (r r' : Slots) :
    (s.setSlots h r).setSlots h r' = s.setSlots h r' := by simp [State.setSlots]

/-- A flag and the slots are written in either order. -/
theorem State.setSlots_raise (s : State) (f : Flag) (h : HolderId) (r : Slots) :
    (s.raise f).setSlots h r = (s.setSlots h r).raise f := rfl

/-- A write of one holder's slots leaves the slots of every other. -/
theorem State.slots_setSlots_other (s : State) {h g : HolderId} (r : Slots) (hg : g ≠ h) :
    (s.setSlots h r).slots.get g = s.slots.get g := HolderTable.get_set_other _ _ hg

/-- The live tags of a holder are those of the orders in its slots (R38). -/
theorem Slots.mem_tags_iff (r : Slots) (tag : Nat) :
    tag ∈ r.tags ↔ (r.active.any fun o => o.tag == tag) = true ∨ (r.followOn.any fun o => o.tag == tag) = true := by
  simp only [Slots.tags, List.mem_map, List.mem_append, Option.mem_toList, Option.any_eq_true, beq_iff_eq]
  constructor
  · rintro ⟨o, ha | hf, ht⟩
    · exact .inl ⟨o, ha, ht⟩
    · exact .inr ⟨o, hf, ht⟩
  · rintro (⟨o, ha, ht⟩ | ⟨o, hf, ht⟩)
    · exact ⟨o, .inl ha, ht⟩
    · exact ⟨o, .inr hf, ht⟩

theorem State.tagLive_iff (s : State) (tag : Nat) : s.tagLive tag = true ↔ tag ∈ s.liveTags := by
  simp only [State.tagLive, State.liveTags, List.any_eq_true, List.mem_flatMap, Slots.mem_tags_iff, Bool.or_eq_true]
  rfl

/-- An order counts exactly in RUNNING and OVERRUN (R38). -/
theorem Order.counting_iff (o : Order) : o.counting = true ↔ o.state = .running ∨ o.state = .overrun := by
  simp [Order.counting]

/-! ### The finished list and the level flag (R57, R59) -/

theorem State.shows_finished_iff (s : State) : s.shows .finished = true ↔ s.finished ≠ [] := by
  simp [State.shows]

@[simp] theorem State.appendFinished_slots (s : State) (r : Finished) : (s.appendFinished r).slots = s.slots := by
  obtain ⟨l, F, e⟩ := s.appendFinished_rest r
  rw [e]

@[simp] theorem State.holder_appendFinished (s : State) (r : Finished) (h : HolderId) : (s.appendFinished r).holder h = s.holder h := by
  obtain ⟨l, F, e⟩ := s.appendFinished_rest r
  rw [e]; rfl

@[simp] theorem State.now_appendFinished (s : State) (r : Finished) : (s.appendFinished r).now = s.now := by
  obtain ⟨l, F, e⟩ := s.appendFinished_rest r
  rw [e]; rfl

@[simp] theorem State.active_appendFinished (s : State) (r : Finished) (h : HolderId) : (s.appendFinished r).active h = s.active h := by
  rw [State.active, State.appendFinished_slots]; rfl

@[simp] theorem State.followOn_appendFinished (s : State) (r : Finished) (h : HolderId) :
    (s.appendFinished r).followOn h = s.followOn h := by
  rw [State.followOn, State.appendFinished_slots]; rfl

/-- An append reads no slot, so it may be made before a write of the slots. -/
theorem State.appendFinished_setSlots (s : State) (r : Finished) (h : HolderId) (x : Slots) :
    (s.setSlots h x).appendFinished r = (s.appendFinished r).setSlots h x := by
  rw [State.appendFinished, State.appendFinished, State.setSlots_finished]; split <;> rfl

/-- An append to a full list sets OVERFLOW (R57). -/
theorem State.appendFinished_overflow (s : State) (r : Finished) (hf : Config.finishedCapacity ≤ s.finished.length) :
    (s.appendFinished r).flags.get .overflow = true := by
  rw [State.appendFinished, if_neg (Nat.not_lt.mpr hf)]
  exact State.raise_get_same _ _

/-! ### Promotion (R59) -/

@[simp] theorem State.promote_finished (s : State) (h : HolderId) : (s.promote h).finished = s.finished := by
  obtain ⟨-, e⟩ | ⟨f, -, e⟩ := s.promote_cases h
  · rw [e]
  · rw [e, State.raise_finished, State.setSlots_finished]

/-- A promotion touches the slots and the flags alone. -/
theorem State.promote_rest (s : State) (h : HolderId) : ∃ S F, s.promote h = { s with slots := S, flags := F } := by
  obtain ⟨-, e⟩ | ⟨f, -, e⟩ := s.promote_cases h
  · exact ⟨s.slots, s.flags, e⟩
  · exact ⟨_, _, e⟩

theorem State.followOn_promote_same (s : State) (h : HolderId) : (s.promote h).followOn h = none := by
  obtain ⟨hf, e⟩ | ⟨f, -, e⟩ := s.promote_cases h
  · rw [e, hf]
  · simp [e, State.followOn_setSlots]

/-- A promotion into an empty active slot makes the follow-on READY there (R59). -/
theorem State.active_promote_same (s : State) (h : HolderId) (ha : s.active h = none) :
    (s.promote h).active h = (s.followOn h).map fun f => { f with state := .ready } := by
  obtain ⟨hf, e⟩ | ⟨f, hf, e⟩ := s.promote_cases h
  · rw [e, hf, ha]; rfl
  · simp [e, hf, State.active_setSlots]

theorem State.promote_slots_other (s : State) {h g : HolderId} (hg : g ≠ h) : (s.promote h).slots.get g = s.slots.get g := by
  obtain ⟨-, e⟩ | ⟨f, -, e⟩ := s.promote_cases h
  · rw [e]
  · rw [e, State.raise_slots, State.slots_setSlots_other _ _ hg]

theorem State.promote_promoted (s : State) (h : HolderId) (hf : s.followOn h ≠ none) :
    (s.promote h).flags.get (.order h .promoted) = true := by
  obtain ⟨hn, -⟩ | ⟨f, -, e⟩ := s.promote_cases h
  · exact absurd hn hf
  · rw [e]; exact State.raise_get_same _ _

/-- A promotion sets one flag and clears none (R187). -/
theorem State.promote_get_keeps (s : State) (h : HolderId) (g : Flag) (hs : s.flags.get g = true) :
    (s.promote h).flags.get g = true := by
  obtain ⟨-, e⟩ | ⟨f, -, e⟩ := s.promote_cases h
  · rwa [e]
  · rw [e]; exact State.raise_get_keeps _ _ _ hs

/-! ### The end of an order (R55) -/

/-- A filled active slot is emptied, its record appended and the follow-on promoted (R55). -/
theorem State.closeOrder_of_active {s : State} {h : HolderId} {o : Order} (ha : s.active h = some o) (cause : Cause) (k : Option Nat)
    (loss : Option Int) :
    s.closeOrder cause k loss h = ((s.setActive h none).appendFinished (o.finish h cause s.now k loss)).promote h := by
  rw [State.closeOrder, ha]

section
variable {s : State} {h : HolderId} {o : Order} (ha : s.active h = some o) (cause : Cause) (k : Option Nat) (loss : Option Int)
include ha

/-- The finished list after the end of an order (R57). -/
theorem State.finished_closeOrder : (s.closeOrder cause k loss h).finished =
    (if s.finished.length < Config.finishedCapacity then s.finished else s.finished.tail) ++ [o.finish h cause s.now k loss] := by
  rw [State.closeOrder_of_active ha, State.promote_finished, State.appendFinished_list, State.setActive_finished]

theorem State.closeOrder_overflow (hf : Config.finishedCapacity ≤ s.finished.length) :
    (s.closeOrder cause k loss h).flags.get .overflow = true := by
  rw [State.closeOrder_of_active ha]
  exact State.promote_get_keeps _ _ _ (State.appendFinished_overflow _ _ hf)

theorem State.followOn_closeOrder : (s.closeOrder cause k loss h).followOn h = none := by
  rw [State.closeOrder_of_active ha, State.followOn_promote_same]

theorem State.active_closeOrder :
    (s.closeOrder cause k loss h).active h = (s.followOn h).map fun f => { f with state := .ready } := by
  rw [State.closeOrder_of_active ha, State.active_promote_same _ _ (by simp), State.followOn_appendFinished,
    State.followOn_setActive]

theorem State.closeOrder_promoted (hf : s.followOn h ≠ none) :
    (s.closeOrder cause k loss h).flags.get (.order h .promoted) = true := by
  rw [State.closeOrder_of_active ha]
  exact State.promote_promoted _ _ (by simpa using hf)

/-- The end of an order leaves the slots of every other holder. -/
theorem State.closeOrder_slots_other {g : HolderId} (hg : g ≠ h) :
    (s.closeOrder cause k loss h).slots.get g = s.slots.get g := by
  rw [State.closeOrder_of_active ha, State.promote_slots_other _ hg, State.appendFinished_slots]
  exact State.slots_setSlots_other _ _ hg

/-- The end of an order touches the slots, the finished list and the flags alone. -/
theorem State.closeOrder_rest :
    ∃ S l F, s.closeOrder cause k loss h = { s with slots := S, finished := l, flags := F } := by
  rw [State.closeOrder_of_active ha]
  obtain ⟨l, F, e⟩ := (s.setActive h none).appendFinished_rest (o.finish h cause s.now k loss)
  obtain ⟨S, G, e'⟩ := ((s.setActive h none).appendFinished (o.finish h cause s.now k loss)).promote_rest h
  exact ⟨S, l, G, by rw [e', e]; rfl⟩

/-- With a follow-on, the record is appended and the follow-on takes the active slot READY (R55, R59). -/
theorem State.closeOrder_of_followOn {f : Order} (hf : s.followOn h = some f) :
    s.closeOrder cause k loss h = ((s.appendFinished (o.finish h cause s.now k loss)).setSlots h
      ⟨some { f with state := .ready }, none⟩).raise (.order h .promoted) := by
  rw [State.closeOrder_of_active ha, State.promote, State.followOn_appendFinished, State.followOn_setActive, hf]
  simp only [State.setActive, State.appendFinished_setSlots, State.setSlots_setSlots]

end

/-! ### LOAD and PROVE (R40 to R42) -/

theorem tagOk_iff (tag : Nat) : tagOk tag = true ↔ 1 ≤ tag ∧ tag ≤ 65535 := by simp [tagOk]

/-- A tally argument is good at 0 and in its range (R39, R40). -/
theorem tallyArg_eq (y : Nat) :
    tallyArg y = if y = 0 ∨ 1000 ≤ y ∧ y ≤ 1000000 then some (if y = 0 then none else some y) else none := by
  by_cases hy : y = 0 <;> simp [tallyArg, hy]

theorem parseKind_eq_some {w : Text} {k : OrderKind} (hk : parseKind w = some k) : k = .fill ∨ k = .draw := by
  simpa using List.mem_of_find?_eq_some hk

/-- A kind word agrees with a path exactly where FILL stands with MAKE and with no other path (R40). -/
theorem PathId.kind_eq_iff {k : OrderKind} (p : PathId) (hk : k = .fill ∨ k = .draw) :
    k = PathId.kind p ↔ (k = .fill ↔ p = .make) := by
  cases p <;> rcases hk with rfl | rfl <;> simp [PathId.kind]

/-- Words that all read are a good LOAD exactly with each argument in its range (R40). -/
theorem parseLoad_of_words {hw tw kw pw qw aw yw : Text} {k : HolderId} {tag q y : Nat} {kind : OrderKind} {p : PathId} {a : AtCount}
    (hh : parseHolder hw = some k) (ht : parseNum tw = some tag) (hk : parseKind kw = some kind) (hp : parsePath pw = some p)
    (hq : parseNum qw = some q) (ha : parseAtCount aw = some a) (hy : parseNum yw = some y) :
    parseLoad [hw, tw, kw, pw, qw, aw, yw] =
      if 1 ≤ tag ∧ tag ≤ 65535 ∧ (kind = .fill ↔ p = .make) ∧ 1000 ≤ q ∧ q ≤ 16000000 ∧ (y = 0 ∨ 1000 ≤ y ∧ y ≤ 1000000) then
        some (k, Order.newTransfer tag p q a (if y = 0 then none else some y))
      else none := by
  simp only [parseLoad, hh, ht, hk, hp, hq, ha, hy, Option.bind_some, tallyArg_eq, tagOk_iff, and_assoc]
  have hpk := PathId.kind_eq_iff p (parseKind_eq_some hk)
  by_cases hr : y = 0 ∨ 1000 ≤ y ∧ y ≤ 1000000
  · simp only [hr, hpk, and_true, if_true]
  · simp only [hr, and_false, if_false]

/-- LOAD takes seven words, each of which reads as its argument (R40). -/
theorem parseLoad_eq_none {ws : List Text} (h : ∀ hw tw kw pw qw aw yw : Text, ws = [hw, tw, kw, pw, qw, aw, yw] →
    parseHolder hw = none ∨ parseNum tw = none ∨ parseKind kw = none ∨ parsePath pw = none ∨ parseNum qw = none ∨
    parseAtCount aw = none ∨ parseNum yw = none) : parseLoad ws = none := by
  unfold parseLoad
  split
  · rename_i hw tw kw pw qw aw yw
    have bad := h hw tw kw pw qw aw yw rfl
    split
    · next hh ht hk hp hq ha hy =>
      obtain ⟨y, hyw, -⟩ := Option.bind_eq_some_iff.mp hy
      simp [hh, ht, hk, hp, hq, ha, hyw] at bad
    · rfl
  · rfl

/-- Words that all read are a good PROVE exactly with each argument in its range (R42). -/
theorem parseProve_of_words {hw tw lw mw : Text} {k : HolderId} {tag l m : Nat} (hh : parseHolder hw = some k)
    (ht : parseNum tw = some tag) (hl : parseNum lw = some l) (hm : parseNum mw = some m) :
    parseProve [hw, tw, lw, mw] =
      if 1 ≤ tag ∧ tag ≤ 65535 ∧ l ≤ 100000 ∧ 30 ≤ m ∧ m ≤ 720 then some (k, Order.newProving tag l m) else none := by
  simp only [parseProve, hh, ht, hl, hm, tagOk_iff, and_assoc]

/-- PROVE takes four words, each of which reads as its argument (R42). -/
theorem parseProve_eq_none {ws : List Text} (h : ∀ hw tw lw mw : Text, ws = [hw, tw, lw, mw] →
    parseHolder hw = none ∨ parseNum tw = none ∨ parseNum lw = none ∨ parseNum mw = none) : parseProve ws = none := by
  unfold parseProve
  split
  · rename_i hw tw lw mw
    have bad := h hw tw lw mw rfl
    split
    · next hh ht hl hm => simp [hh, ht, hl, hm] at bad
    · rfl
  · rfl

/-- The three grounds on which a good offer is refused (R40, R42). -/
theorem State.orderBarred_iff (s : State) (h : HolderId) (tag : Nat) : s.orderBarred h tag = true ↔
    (s.holderSettings h).service = .outOfService ∨ tag ∈ s.liveTags ∨ (s.active h ≠ none ∧ s.followOn h ≠ none) := by
  simp [State.orderBarred, State.tagLive_iff, Option.isSome_iff_ne_none, or_assoc]

theorem State.offerOrder_barred {s : State} {h : HolderId} {o : Order} (hb : (s.holderSettings h).service = .outOfService ∨
    o.tag ∈ s.liveTags ∨ (s.active h ≠ none ∧ s.followOn h ≠ none)) : s.offerOrder h o = .refuse .rs := by
  rw [State.offerOrder, if_pos ((s.orderBarred_iff h o.tag).mpr hb)]

section
variable {s : State} {h : HolderId} {o : Order} (hs : (s.holderSettings h).service = .inService) (ht : o.tag ∉ s.liveTags)
include hs ht

/-- An order admitted to a holder with no active order takes the active slot (R41). -/
theorem State.offerOrder_active (ha : s.active h = none) : s.offerOrder h o =
    .done false ["ACTIVE".toList] (((s.setSlots h ⟨some o, s.followOn h⟩).provingLook h).choices) := by
  have hb : ¬ s.orderBarred h o.tag = true := by simp [State.orderBarred_iff, hs, ht, ha]
  simp only [State.offerOrder, if_neg hb, State.slotTaken, State.placeOrder, ha]
  rfl

/-- An order admitted behind an active order takes the follow-on slot, PENDING (R41). -/
theorem State.offerOrder_followOn (ha : s.active h ≠ none) (hf : s.followOn h = none) : s.offerOrder h o =
    .done false ["FOLLOW-ON".toList] ((s.setSlots h ⟨s.active h, some { o with state := .pending }⟩).choices) := by
  obtain ⟨x, hx⟩ := Option.ne_none_iff_exists'.mp ha
  have hb : ¬ s.orderBarred h o.tag = true := by simp [State.orderBarred_iff, hs, ht, hf]
  simp only [State.offerOrder, if_neg hb, State.slotTaken, State.placeOrder, State.setFollowOn, hx]
  rfl

end

/-- LOAD and PROVE with good arguments offer their order alike (R40, R42). -/
theorem exec_offer {args : List Text} {h : HolderId} {o : Order} {prove : Bool}
    (hp : (if prove then parseProve args else parseLoad args) = some (h, o)) (s : State) :
    exec (if prove then .prove args else .load args) s =
      .next (s.takeRequest (if prove then proveVerb else loadVerb) args false (State.offerOrder h o)) := by
  cases prove with
  | true =>
    have hw : proveAnswer args = State.offerOrder h o := funext fun t => by rw [proveAnswer, show parseProve args = _ from hp]
    exact hw ▸ exec_prove args s
  | false =>
    have hw : loadAnswer args = State.offerOrder h o := funext fun t => by rw [loadAnswer, show parseLoad args = _ from hp]
    exact hw ▸ exec_load args s

theorem exec_load_badArgs {s : State} (hl : s.Listening) {ws : List Text} (hp : parseLoad ws = none) :
    exec (.load ws) s = .next (s.refusedWith loadVerb ws .ra) := by
  rw [exec_load, State.takeRequest_refuse hl (by rw [loadAnswer, hp])]

theorem exec_prove_badArgs {s : State} (hl : s.Listening) {ws : List Text} (hp : parseProve ws = none) :
    exec (.prove ws) s = .next (s.refusedWith proveVerb ws .ra) := by
  rw [exec_prove, State.takeRequest_refuse hl (by rw [proveAnswer, hp])]

/-! ### END (R53) -/

theorem Order.endBarred_iff (o : Order) : o.endBarred = true ↔ o.counting = true ∧ o.outgoing = true ∧ o.endDue ≠ none := by
  simp [Order.endBarred, Option.isSome_iff_ne_none, and_assoc]

/-- END is barred for no order READY, PROVING or STARTING (R53). -/
theorem Order.not_endBarred_of_state {o : Order} (h : o.state = .ready ∨ o.state = .proving ∨ o.state = .starting) :
    ¬ o.endBarred = true := by
  rcases h with h | h | h <;> simp [Order.endBarred, Order.counting, h]

section
variable {s : State} {args : List Text} {h : HolderId} (hp : parseOneHolder args = some h)
include hp

theorem endAnswer_empty (ha : s.active h = none) : endAnswer args s = .refuse .rs := by
  simp only [endAnswer, hp, ha]

theorem endAnswer_barred {o : Order} (ha : s.active h = some o) (hb : o.endBarred = true) : endAnswer args s = .refuse .rs := by
  simp only [endAnswer, hp, ha, if_pos hb]

/-- An END that is not barred takes its effect and answers the order's tag and its state before (R53). -/
theorem endAnswer_done {o : Order} (ha : s.active h = some o) (hb : ¬ o.endBarred = true) :
    endAnswer args s = .done false [decimal o.tag, o.state.name] ((s.endByRequest h o).choices) := by
  simp only [endAnswer, hp, ha, if_neg hb]

theorem dropAnswer_empty (hf : s.followOn h = none) : dropAnswer args s = .refuse .rs := by
  simp only [dropAnswer, hp, hf]

/-- A DROP empties the follow-on slot and answers the order's tag and kind (R54). -/
theorem dropAnswer_done {o : Order} (hf : s.followOn h = some o) :
    dropAnswer args s = .done false [decimal o.tag, o.kind.name] ((s.setSlots h ⟨s.active h, none⟩).choices) := by
  simp only [dropAnswer, hp, hf, State.setFollowOn]

end

theorem endAnswer_badArgs {args : List Text} (hp : parseOneHolder args = none) (s : State) : endAnswer args s = .refuse .ra := by
  simp only [endAnswer, hp]

theorem dropAnswer_badArgs {args : List Text} (hp : parseOneHolder args = none) (s : State) : dropAnswer args s = .refuse .ra := by
  simp only [dropAnswer, hp]

/-- An END that is not barred, as the line carries it out (R53). -/
theorem exec_endOrder_done {s : State} (hl : s.Listening) {args : List Text} {h : HolderId} (hp : parseOneHolder args = some h) {o : Order}
    (ha : s.active h = some o) (hb : ¬ o.endBarred = true) :
    exec (.endOrder args) s = .next ((((s.receive .idle).endByRequest h o).choices).sendReply endVerb args .ok
      [decimal o.tag, o.state.name]) := by
  rw [exec_endOrder, State.takeRequest_done hl (endAnswer_done hp ha hb)]

theorem State.endByRequest_atRest (s : State) (h : HolderId) {o : Order} (ho : o.state = .ready ∨ o.state = .proving) :
    s.endByRequest h o = s.endActive .ended h := by
  rcases ho with ho | ho <;> simp only [State.endByRequest, ho]

theorem State.endByRequest_starting (s : State) (h : HolderId) {o : Order} (ho : o.state = .starting) :
    s.endByRequest h o = s.endStarting .ended h := by simp only [State.endByRequest, ho]

theorem State.endByRequest_counting (s : State) (h : HolderId) {o : Order} (ho : o.counting = true) :
    s.endByRequest h o = s.putEnded h := by
  rcases o.counting_iff.mp ho with ho | ho <;> simp only [State.endByRequest, ho]

/-! ### FIN (R58) -/

theorem finAnswer_empty {s : State} (hf : s.finished = []) : finAnswer [] s = .done false [noneItem] s := by
  simp only [finAnswer, hf]

/-- FIN takes the oldest record off the list and answers it (R58). -/
theorem finAnswer_oldest {s : State} {f : Finished} {rest : List Finished} (hf : s.finished = f :: rest) :
    finAnswer [] s = .done false f.data { s with finished := rest } := by
  simp only [finAnswer, hf]

theorem finAnswer_badArgs {args : List Text} (ha : args ≠ []) (s : State) : finAnswer args s = .refuse .ra := by
  cases args with
  | nil => exact absurd rfl ha
  | cons w ws => rfl

/-! ### Ends put to the path arbiters (R50 to R52, R72, R76) -/

/-- A transfer order with an end due written (R50). -/
def Order.dueTo (o : Order) (u : Transfer) (due : EndDue) : Order := { o with body := .transfer { u with endDue := some due } }

/-- The record of an order holds no end due (R56). -/
theorem Order.finish_dueTo {o : Order} {u : Transfer} (hb : o.body = .transfer u) (due : EndDue) (h : HolderId) (cause : Cause)
    (ended : Option ClockTime) (k : Option Nat) (loss : Option Int) :
    (o.dueTo u due).finish h cause ended k loss = o.finish h cause ended k loss := by
  simp only [Order.finish, Order.dueTo, hb]
  rfl

theorem Order.kind_ne_prove {o : Order} {u : Transfer} (hb : o.body = .transfer u) : o.kind ≠ .prove := by
  simp only [Order.kind, Transfer.kind, hb]
  split <;> decide

/-- A follow-on on the order's path continues it; a path fixes the kind (R72). -/
theorem State.followsOn_of_path {s : State} {h : HolderId} {f : Order} {p : PathId} (hf : s.followOn h = some f)
    (hfp : f.path = some p) : s.followsOn h p = true := by simp [State.followsOn, hf, hfp]

/-- The outgoing cause is written where none stands, on the path that its holder leaves in stage FIRST (R76). -/
theorem State.writeCause_first {s : State} {p : PathId} {h : HolderId} {g : Option Grant}
    (hst : (s.path p).state = .changeover .first g h none) (due : EndDue) :
    s.writeCause due p h = s.setPathState p (.changeover .first g h (some due)) := by
  simp only [State.writeCause, hst, if_true]

/-- Anywhere else no cause is written (R76). -/
theorem State.writeCause_other {s : State} {p : PathId} {h : HolderId}
    (hst : ∀ g, (s.path p).state ≠ .changeover .first g h none) (due : EndDue) : s.writeCause due p h = s := by
  unfold State.writeCause
  split
  · next g out hq => exact if_neg fun (ho : out = h) => hst g (ho ▸ hq)
  · rfl

/-- A STARTING order ended takes its path with it (R53, R71, R75). -/
theorem State.endStarting_of_path {s : State} {h : HolderId} {o : Order} {p : PathId} (ha : s.active h = some o) (hp : o.path = some p)
    (cause : Cause) : s.endStarting cause h = (s.endActive cause h).valveLostOn p h true := by
  simp only [State.endStarting, ha, hp]

/-- A trigger finds no transfer order that counts (R49). -/
theorem State.forceEnd_idle {s : State} {h : HolderId} (due : EndDue)
    (hn : s.active h = none ∨ ∃ o, s.active h = some o ∧ (o.counting = false ∨ o.kind = .prove)) : s.forceEnd due h = s := by
  obtain ha | ⟨o, ha, ho⟩ := hn
  · simp only [State.forceEnd, ha]
  · cases hb : o.body with
    | proving p => simp only [State.forceEnd, ha, hb]
    | transfer u =>
      have hc : o.counting = false := ho.resolve_right (Order.kind_ne_prove hb)
      simp [State.forceEnd, ha, hb, hc]

section
variable {s : State} {h : HolderId} {o : Order} {u : Transfer} (ha : s.active h = some o) (hb : o.body = .transfer u)
include ha hb

theorem State.updateTransfer_due (due : EndDue) :
    s.updateTransfer (fun t => { t with endDue := some due }) h = s.setActive h (some (o.dueTo u due)) := by
  simp only [State.updateTransfer, ha, hb]
  rfl

/-- A trigger for an order that is not outgoing is written and put to the arbiters (R50). -/
theorem State.forceEnd_granted (hc : o.counting = true) (ho : u.outgoing = false) (due : EndDue) :
    s.forceEnd due h = (s.setActive h (some (o.dueTo u due))).handOverOrEnd due u.path h := by
  simp [State.forceEnd, ha, hb, hc, ho, State.updateTransfer_due ha hb]

/-- A trigger for an outgoing order with no end due is written there and as its path's cause (R51, R76). -/
theorem State.forceEnd_outgoing (hc : o.counting = true) (ho : u.outgoing = true) (hd : u.endDue = none) (due : EndDue) :
    s.forceEnd due h = (s.setActive h (some (o.dueTo u due))).writeCause due u.path h := by
  simp [State.forceEnd, ha, hb, hc, ho, hd, State.updateTransfer_due ha hb]

/-- An end due already written stands (R51). -/
theorem State.forceEnd_due (ho : u.outgoing = true) {d : EndDue} (hd : u.endDue = some d) (due : EndDue) : s.forceEnd due h = s := by
  simp [State.forceEnd, ha, hb, ho, hd]

/-- END without a continuation puts the end to the arbiters (R72). -/
theorem State.putEnded_forced (hn : u.outgoing = true ∨ s.followsOn h u.path = false) : s.putEnded h = s.forceEnd .ended h := by
  have hc : ¬ (!u.outgoing && s.followsOn h u.path) = true := by rcases hn with hn | hn <;> simp [hn]
  simp only [State.putEnded, ha, hb, if_neg hc]

/-- END with a follow-on on the same path is a continuation (R72, R79). -/
theorem State.putEnded_continued (ho : u.outgoing = false) (hf : s.followsOn h u.path = true) :
    s.putEnded h = (s.setActive h (some (o.dueTo u .ended))).continueOrder u.path h := by
  simp [State.putEnded, ha, hb, ho, hf, State.updateTransfer_due ha hb]

end

/-- The state in which a continued order has its record and its follow-on runs in its place, before the stop check (R52, R79). -/
def State.continuedBy (s : State) (p : PathId) (h : HolderId) (r : Finished) (f : Order) : State :=
  ((((s.appendFinished r).setSlots h ⟨some { f with state := .running, start := s.now }, none⟩).raise (.order h .promoted)).setHolder h
    { s.holder h with trailing := 0 }).setPath p { s.path p with lastServed := some h }

/-- An order made RUNNING starts now, and its holder's trailing movement is reset (R44, R45, R16). -/
theorem State.runOrder_of_active {s : State} {h : HolderId} {o : Order} (ha : s.active h = some o) :
    s.runOrder h = (s.setActive h (some { o with state := .running, start := s.now })).setHolder h { s.holder h with trailing := 0 } := by
  simp only [State.runOrder, ha]

/-- The end of an order with its follow-on made RUNNING in its place (R52, R79). -/
theorem State.runOrder_closeOrder {s : State} {h : HolderId} {o f : Order} (ha : s.active h = some o) (hf : s.followOn h = some f)
    (cause : Cause) (k : Option Nat) (loss : Option Int) :
    (s.closeOrder cause k loss h).runOrder h = (((s.appendFinished (o.finish h cause s.now k loss)).setSlots h
      ⟨some { f with state := .running, start := s.now }, none⟩).raise (.order h .promoted)).setHolder h
        { s.holder h with trailing := 0 } := by
  have hpro : (s.closeOrder cause k loss h).active h = some { f with state := .ready } := by
    rw [State.active_closeOrder ha, hf]; rfl
  rw [State.runOrder_of_active hpro, State.setActive, State.followOn_closeOrder ha, State.closeOrder_of_followOn ha cause k loss hf]
  simp only [State.now_raise, State.now_setSlots, State.now_appendFinished, State.holder_raise, State.holder_setSlots,
    State.holder_appendFinished, State.setSlots_raise, State.setSlots_setSlots]

theorem State.continueOrder_eq {s : State} {h : HolderId} {o f : Order} (ha : s.active h = some o) (hf : s.followOn h = some f)
    (p : PathId) :
    s.continueOrder p h = (s.continuedBy p h (o.finish h .continued s.now none none) f).stopCheck h := by
  rw [State.continueOrder, State.runOrder_closeOrder ha hf, State.continuedBy]

/-- A continuation does not depend on the order it removes but for its record. -/
theorem State.continuedBy_setActive (s : State) (p : PathId) (h : HolderId) (r : Finished) (f : Order) (x : Option Order) :
    (s.setActive h x).continuedBy p h r f = s.continuedBy p h r f := by
  simp only [State.continuedBy, State.setActive, State.appendFinished_setSlots, State.setSlots_setSlots]
  rfl

/-- END of an order with a follow-on on its path: the continuation, then the stop check (R52, R72, R79). -/
theorem State.putEnded_followed {s : State} {h : HolderId} {o f : Order} {u : Transfer} (ha : s.active h = some o)
    (hb : o.body = .transfer u) (ho : u.outgoing = false) (hf : s.followOn h = some f) (hfp : f.path = some u.path) :
    s.putEnded h = (s.continuedBy u.path h (o.finish h .continued s.now none none) f).stopCheck h := by
  rw [State.putEnded_continued ha hb ho (State.followsOn_of_path hf hfp),
    State.continueOrder_eq (State.active_setActive_same _ _ _) (by rw [State.followOn_setActive, hf]), Order.finish_dueTo hb,
    State.continuedBy_setActive, State.now_setActive]

@[simp] theorem State.outer_continuedBy (s : State) (p : PathId) (h : HolderId) (r : Finished) (f : Order) :
    (s.continuedBy p h r f).outer = s.outer := by simp [State.continuedBy]

theorem State.continuedBy_promoted (s : State) (p : PathId) (h : HolderId) (r : Finished) (f : Order) :
    (s.continuedBy p h r f).flags.get (.order h .promoted) = true := by
  simp only [State.continuedBy, State.setPath_flags, State.setHolder_flags, State.raise_get_same]

/-- A continuation's work on the part's records, the flags apart (R52, R79). -/
theorem State.works_continuedBy (s : State) (p : PathId) (h : HolderId) (r : Finished) (f : Order) :
    (s.continuedBy p h r f).works = (((((s.appendFinished r).setSlots h
      ⟨some { f with state := .running, start := s.now }, none⟩).setPath p { s.path p with lastServed := some h }).setHolder h
        { s.holder h with trailing := 0 }).works) := rfl

end Sys2Proof.Machine

open Sys2Proof Sys2Proof.Machine

/-- Settles O38: both requests offer their order alike, so the three outcomes are those of one offer; the arguments are judged word by
word. -/
theorem ordersAreOffered : Obligations.OrdersAreOffered := by
  intro s args h o prove hl hp
  have offered := exec_offer hp s
  refine ⟨fun hb => ?_, fun hs ht ha => ?_, fun hs ht ha hf => ?_, fun ws => exec_load_badArgs hl, fun ws => exec_prove_badArgs hl,
    fun hw tw kw pw qw aw yw k tag q y kind p a => parseLoad_of_words, fun ws => parseLoad_eq_none, fun ws => parseProve_eq_none,
    fun hw tw lw mw k tag l m => parseProve_of_words⟩
  · rw [offered, State.takeRequest_refuse hl (State.offerOrder_barred hb)]
  · rw [offered, State.takeRequest_done hl (State.offerOrder_active hs ht ha)]
    rfl
  · rw [offered, State.takeRequest_done hl (State.offerOrder_followOn hs ht ha hf)]
    rfl

/-- Settles O40, from the rules of the append and of the promotion. -/
theorem endedOrderLeavesARecord : Obligations.EndedOrderLeavesARecord := by
  intro s h o cause k loss ha t
  have list : t.finished = (if s.finished.length < 16 then s.finished else s.finished.tail) ++ [o.finish h cause s.yard.clock k loss] :=
    State.finished_closeOrder ha cause k loss
  obtain ⟨S, l, F, rest⟩ : ∃ S l F, t = { s with slots := S, finished := l, flags := F } := State.closeOrder_rest ha cause k loss
  have other (g : HolderId) (hg : g ≠ h) : t.slots.get g = s.slots.get g := State.closeOrder_slots_other ha cause k loss hg
  refine ⟨fun hs => ?_, fun hs => ⟨?_, State.closeOrder_overflow ha cause k loss hs⟩, State.followOn_closeOrder ha cause k loss,
    State.active_closeOrder ha cause k loss, State.closeOrder_promoted ha cause k loss, ?_, ?_,
    fun u n => ⟨u.shows_finished_iff, rfl⟩, fun g hg => ?_, State.outer_closeOrder s cause k loss h, ?_⟩
  · rw [list, if_pos hs]
  · rw [list, if_neg (Nat.not_lt.mpr hs)]
  · rw [State.shows_finished_iff, list]
    exact List.append_ne_nil_of_right_ne_nil _ (List.cons_ne_nil _ _)
  · rw [list, List.length_append, List.length_singleton]
    split
    · omega
    · rw [List.length_tail]; omega
  · exact ⟨congrArg Slots.active (other g hg), congrArg Slots.followOn (other g hg)⟩
  · rw [rest]
    exact ⟨rfl, rfl, rfl, rfl, rfl⟩

/-- Settles O39: the requests by the block's answers, the ends put to the path arbiters by the rules of the end due, its cause and the
continuation. -/
theorem endDropAndFin : Obligations.EndDropAndFin := by
  intro s hw h hl hp
  have hp1 : parseOneHolder [hw] = some h := hp
  have done {o : Order} (ha : s.active h = some o) (hb : ¬ o.endBarred = true) := exec_endOrder_done hl hp1 ha hb
  refine ⟨fun ha => ?_, fun o ha ho => ?_, fun o ha ho => ?_, fun o ha hc hg hd => ?_, fun o ha hc hb => ?_, fun hf => ?_, fun o hf => ?_,
    fun hf => ?_, fun f rest hf => ?_, s.shows_finished_iff, fun args hb => ⟨?_, ?_⟩, fun args hb => ?_, fun cause => rfl,
    fun o p cause ha hpath => State.endStarting_of_path ha hpath cause, fun o u ha hb hc ho hn => State.putEnded_forced ha hb (.inr hn),
    fun o u ha hb hc ho => State.putEnded_forced ha hb (.inl ho), fun o u f ha hb hc ho hf hfp => ?_,
    fun o u due ha hb hc ho => State.forceEnd_granted ha hb hc ho due, fun o u due ha hb hc ho hd => ?_,
    fun o u d due ha hb ho hd => State.forceEnd_due ha hb ho hd due, fun due hn => State.forceEnd_idle due hn⟩
  · rw [exec_endOrder, State.takeRequest_refuse hl (endAnswer_empty hp1 ha)]
  · rw [done ha (Order.not_endBarred_of_state (ho.imp_right .inl)), State.endByRequest_atRest _ _ ho]
  · rw [done ha (Order.not_endBarred_of_state (.inr (.inr ho))), State.endByRequest_starting _ _ ho]
  · rw [exec_endOrder, State.takeRequest_refuse hl (endAnswer_barred hp1 ha (o.endBarred_iff.mpr ⟨hc, hg, hd⟩))]
  · have notBarred : ¬ o.endBarred = true := by
      rw [Order.endBarred_iff]
      rintro ⟨-, hg, hd⟩
      rcases hb with hb | hb
      · exact Bool.false_ne_true (hb.symm.trans hg)
      · exact hd hb
    rw [done ha notBarred, State.endByRequest_counting _ _ hc]
  · rw [exec_drop, State.takeRequest_refuse hl (dropAnswer_empty hp1 hf)]
  · rw [exec_drop, State.takeRequest_done hl (dropAnswer_done hp1 hf)]
    rfl
  · rw [exec_fin, State.takeRequest_done hl (finAnswer_empty hf)]
  · rw [exec_fin, State.takeRequest_done hl (finAnswer_oldest hf)]
  · rw [exec_endOrder, State.takeRequest_refuse hl (endAnswer_badArgs hb _)]
  · rw [exec_drop, State.takeRequest_refuse hl (dropAnswer_badArgs hb _)]
  · rw [exec_fin, State.takeRequest_refuse hl (finAnswer_badArgs hb _)]
  · exact ⟨_, State.putEnded_followed ha hb ho hf hfp, State.outer_continuedBy _ _ _ _ _, State.continuedBy_promoted _ _ _ _ _,
      State.works_continuedBy _ _ _ _ _⟩
  · rw [State.forceEnd_outgoing ha hb hc ho hd]
    split
    · next g out hst =>
      split
      · next hout => exact State.writeCause_first (hout ▸ hst) due
      · next hout =>
        refine State.writeCause_other (fun g' hq => hout ?_) due
        cases hst.symm.trans hq
        rfl
    · next hst => exact State.writeCause_other (s := s.setActive h _) (fun g => hst g h) due
end

section
/-!
The correction arithmetic (chapter 6): rounding half up and the factor as monotone functions, whose values at the corners of the input
ranges are their bounds, and the credit and therm conversion as divisions with remainder.
-/
namespace Sys2Proof.Machine

/-! ### Rounding half up (R101) -/

/-- The rounded quotient is past `q` once the quotient reaches `q` and a half. -/
theorem lt_roundHalfUp_iff {q n d : Nat} (hd : 0 < d) : q < roundHalfUp n d ↔ (2 * q + 1) * d ≤ 2 * n := by
  have shift : (q + 1) * (2 * d) = (2 * q + 1) * d + d := by
    rw [← Nat.mul_assoc, ← Nat.succ_mul]
    exact congrArg (· * d) (by omega)
  rw [roundHalfUp, Nat.lt_iff_add_one_le, Nat.le_div_iff_mul_le (by omega), shift, Nat.add_le_add_iff_right]

theorem roundHalfUp_mono {n n' d d' : Nat} (hn : n ≤ n') (hd' : 0 < d') (hd : d' ≤ d) : roundHalfUp n d ≤ roundHalfUp n' d' := by
  have passes {q : Nat} (hq : q < roundHalfUp n d) : q < roundHalfUp n' d' := by
    rw [lt_roundHalfUp_iff (Nat.lt_of_lt_of_le hd' hd)] at hq
    rw [lt_roundHalfUp_iff hd']
    calc (2 * q + 1) * d' ≤ (2 * q + 1) * d := Nat.mul_le_mul_left _ hd
      _ ≤ 2 * n := hq
      _ ≤ 2 * n' := Nat.mul_le_mul_left _ hn
  exact Nat.le_of_not_lt fun below => Nat.lt_irrefl _ (passes below)

/-! ### The barometric conversion and the factor (R103 to R106) -/

theorem barometric_mono {b b' : Nat} (h : b ≤ b') : barometric b ≤ barometric b' :=
  Nat.div_le_div_right (Nat.add_le_add_right (Nat.mul_le_mul_right _ h) _)

/-- No exact half: 136 and 100 are multiples of 4 and 50 is not (R103). -/
theorem barometric_never_half (b : Nat) : b * 136 % 100 ≠ 50 := by omega

/-- The ends of the conversion, and standard pressure (R103). -/
theorem barometric_values : barometric 2700 = 3672 ∧ barometric 3150 = 4284 ∧ barometric 3000 = 4080 := by decide

theorem barometric_range {b : Nat} (lo : 2700 ≤ b) (hi : b ≤ 3150) : 3672 ≤ barometric b ∧ barometric b ≤ 4284 := by
  obtain ⟨low, high, -⟩ := barometric_values
  exact ⟨low ▸ barometric_mono lo, high ▸ barometric_mono hi⟩

/-- The pressure stands in the dividend and the temperature in the divisor (R106). -/
theorem factor_mono {b b' g g' t t' : Nat} (hb : b ≤ b') (hg : g ≤ g') (ht : t' ≤ t) : factor b g t ≤ factor b' g' t' := by
  have pressure : absolutePressure b g ≤ absolutePressure b' g' := Nat.add_le_add (barometric_mono hb) hg
  have temperature : absoluteTemperature t' ≤ absoluteTemperature t := Nat.add_le_add_right ht _
  have divisorPos : 0 < 4080 * absoluteTemperature t' := by
    rw [absoluteTemperature]; omega
  exact roundHalfUp_mono (Nat.mul_le_mul_right _ (Nat.mul_le_mul_right _ pressure)) divisorPos (Nat.mul_le_mul_left _ temperature)

/-- The factor at standard conditions and at the two corners of its inputs (R106). -/
theorem factor_values : factor 3000 0 60 = 10000 ∧ factor 2700 0 120 = 8069 ∧ factor 3150 300 0 = 12701 := by decide

theorem factor_range {b g t : Nat} (lo : 2700 ≤ b) (hi : b ≤ 3150) (hg : g ≤ 300) (ht : t ≤ 120) :
    8069 ≤ factor b g t ∧ factor b g t ≤ 12701 := by
  obtain ⟨-, low, high⟩ := factor_values
  exact ⟨low ▸ factor_mono lo (Nat.zero_le g) ht, high ▸ factor_mono hi hg (Nat.zero_le t)⟩

/-! ### The interval credit (R107) -/

theorem credit_split (n p f r : Nat) : 10000 * standardCredit n p f r + creditResidue n p f r = n * p * f + r :=
  Nat.div_add_mod _ _

theorem creditResidue_le (n p f r : Nat) : creditResidue n p f r ≤ 9999 :=
  Nat.le_of_lt_succ (Nat.mod_lt _ (by decide))

theorem standardCredit_le {n p f r : Nat} (hn : n ≤ 65535) (hp : p ≤ 100) (hf : f ≤ 12701) (hr : r ≤ 9999) :
    standardCredit n p f r ≤ 8323601 := by
  have volume : n * p * f ≤ 65535 * 100 * 12701 := Nat.mul_le_mul (Nat.mul_le_mul hn hp) hf
  have split := credit_split n p f r
  omega

theorem credit_of_no_pulses (p f : Nat) {r : Nat} (hr : r ≤ 9999) : standardCredit 0 p f r = 0 ∧ creditResidue 0 p f r = r := by
  have split := credit_split 0 p f r
  have residue := creditResidue_le 0 p f r
  rw [Nat.zero_mul, Nat.zero_mul] at split
  omega

/-! ### The therm conversion (R109) -/

theorem therms_split (k cv q : Nat) : 100000 * creditTherms k cv q + creditBtu k cv q = creditEnergy k cv q :=
  Nat.div_add_mod _ _

theorem creditBtu_le (k cv q : Nat) : creditBtu k cv q ≤ 99999 :=
  Nat.le_of_lt_succ (Nat.mod_lt _ (by decide))

theorem creditEnergy_le {k cv q : Nat} (hk : k ≤ 8323601) (hcv : cv ≤ 700) (hq : q ≤ 99999) : creditEnergy k cv q ≤ 5826620699 :=
  Nat.add_le_add (Nat.mul_le_mul hk hcv) hq

theorem creditTherms_le {k cv q : Nat} (hk : k ≤ 8323601) (hcv : cv ≤ 700) (hq : q ≤ 99999) : creditTherms k cv q ≤ 58266 := by
  have split := therms_split k cv q
  have energy := creditEnergy_le hk hcv hq
  omega

theorem therms_of_no_credit (cv : Nat) {q : Nat} (hq : q ≤ 99999) : creditTherms 0 cv q = 0 ∧ creditBtu 0 cv q = q := by
  have split : 100000 * creditTherms 0 cv q + creditBtu 0 cv q = 0 * cv + q := therms_split 0 cv q
  have residue := creditBtu_le 0 cv q
  rw [Nat.zero_mul] at split
  omega

end Sys2Proof.Machine

open Sys2Proof Sys2Proof.Machine

/-- Settles O47: the ranges by monotonicity from the corner values, the rest by the laws of a division with remainder. -/
theorem creditsLoseNothing : Obligations.CreditsLoseNothing := by
  intro n p f r cv q b g t k
  obtain ⟨bLow, bHigh, bStandard⟩ := barometric_values
  obtain ⟨fStandard, fLow, fHigh⟩ := factor_values
  refine ⟨rfl, barometric_never_half b, rfl, fun lo hi hg ht => ?_, bLow, bHigh, bStandard, fStandard, fLow, fHigh,
    fun _ _ _ => factor_mono, credit_split n p f r, creditResidue_le n p f r, standardCredit_le, credit_of_no_pulses p f,
    therms_split k cv q, creditBtu_le k cv q, fun hk hcv hq => ⟨creditEnergy_le hk hcv hq, creditTherms_le hk hcv hq⟩,
    therms_of_no_credit cv⟩
  obtain ⟨bLo, bHi⟩ := barometric_range lo hi
  exact ⟨bLo, bHi, factor_range lo hi hg ht⟩
end

section
/-!
SUPPORT. The interval end (chapter 7): an operation done for each name as one name sees it, the interval values, the credit of one meter
and of all six, and from them the statement on the interval end.
-/
namespace Sys2Proof.Machine

/-! ### An operation done for each name, as one name sees it -/

/-- Where every other name's operation leaves a part of the state, and a name's own reads nothing else for it, that part stands after all
of them as the name's own operation alone leaves it. -/
theorem forEach_own {α β : Type} (g : State → β) {xs : List α} {f : α → State → State} {x : α} (hx : x ∈ xs) (distinct : xs.Nodup)
    (other : ∀ y, y ≠ x → ∀ t, g (f y t) = g t) (own : ∀ t u, g t = g u → g (f x t) = g (f x u)) (s : State) :
    g (forEach xs f s) = g (f x s) := by
  induction xs generalizing s with
  | nil => cases hx
  | cons y ys ih =>
    obtain ⟨hy, distinct'⟩ := List.nodup_cons.mp distinct
    rcases List.mem_cons.mp hx with rfl | hx'
    · exact forEach_same g ys f (fun z hz => other z (ne_of_mem_of_not_mem hz hy)) _
    · calc g (forEach ys f (f y s)) = g (f x (f y s)) := ih hx' distinct' _
        _ = g (f x s) := own _ _ (other y (ne_of_mem_of_not_mem hx' hy).symm s)

/-! ### Interval values (R119) -/

theorem intervalValue_fst (sum count : Nat) (last : Option Nat) (standIn : Nat) :
    (intervalValue sum count last standIn).1 = if 0 < count then (sum + count / 2) / count else last.getD standIn := by
  unfold intervalValue
  split
  · rfl
  · cases last <;> rfl

/-- An interval value is an estimate exactly with no reading (R119). -/
theorem intervalValue_snd (sum count : Nat) (last : Option Nat) (standIn : Nat) :
    (intervalValue sum count last standIn).2 = (count == 0) := by
  unfold intervalValue
  split
  · next h => exact (beq_eq_false_iff_ne.mpr (Nat.ne_of_gt h)).symm
  · next h => cases last <;> exact (beq_iff_eq.mpr (Nat.eq_zero_of_not_pos h)).symm

theorem Barometer.endInterval_value (b : Barometer) :
    b.endInterval.value = if 0 < b.count then some (b.interval.1, .interval) else b.value := by
  rw [Barometer.interval, intervalValue_fst]
  unfold Barometer.endInterval
  split <;> rfl

/-! ### The credit of one meter (R120) -/

/-- The number of the hour slot of an interval end (R120). -/
theorem slotBefore_val (tod start : Nat) : (slotBefore tod start).val = ((tod + 86399) % 86400 / 3600 + 24 - start) % 24 := by
  have before : tod + Config.daySeconds - 1 = tod + 86399 := Nat.add_sub_assoc (by decide) tod
  rw [slotBefore, before, slotOf, Fin.val_ofNat, Config.daySeconds, Config.hourSeconds]

/-- The slots after a credit is posted: the slot named grows by it, and every other stands (R120). -/
theorem DayAccount.post_slots (a : DayAccount) (c : Credit) (therms : Nat) (slot k : Fin 24) :
    (a.post c therms slot).slots.get k = a.slots.get k + if k.val = slot.val then c.credited else 0 := by
  have written : (a.post c therms slot).slots.get k = if slot.val = k.val then a.slots.get slot + c.credited else a.slots.get k :=
    Vector.getElem_set slot.isLt k.isLt
  rw [written]
  by_cases h : k = slot
  · rw [h, if_pos rfl, if_pos rfl]
  · have hk : k.val ≠ slot.val := Fin.val_ne_of_ne h
    rw [if_neg hk.symm, if_neg hk, Nat.add_zero]

/-- A credit leaves the peak so far (R120, R121). -/
theorem DayAccount.post_peak (a : DayAccount) (c : Credit) (therms : Nat) (slot : Fin 24) : (a.post c therms slot).peak = a.peak := by
  rw [DayAccount.post]

/-- The credit that a meter makes at an interval end of a given time. -/
def State.creditOf (baro : Nat × Bool) (time : ClockTime) (m : MeterId) (s : State) : Credit :=
  (s.meter m).credit (s.creditInputs baro m) (s.settings.pulse.get m) time

/-- What the credit of one meter reads and writes: the settings, the meter's record, its Btu residue, the open day's part of its account
and its ESTIMATED flag. -/
structure Ledger where
  settings : Settings
  meter : MeterRec
  btu : Nat
  account : Option DayAccount
  estimated : Bool

/-- The ledger of a meter as the state holds it. -/
def State.ledger (m : MeterId) (s : State) : Ledger where
  settings := s.settings
  meter := s.meter m
  btu := s.accounts.btu.get m
  account := s.accounts.day.map fun d => d.accounts.get m
  estimated := s.flags.get (.meter m .estimated)

section
variable (baro : Nat × Bool) (time : ClockTime) (slot : Fin 24)

/-- Everything that the credit of one meter writes (R120). -/
theorem State.creditMeter_eq (m : MeterId) (s : State) :
    let c := s.creditOf baro time m
    let therms := creditTherms c.credited (s.settings.cv.get m) (s.accounts.btu.get m)
    s.creditMeter baro time slot m =
      { s with
        flags := if c.estimated then s.flags.on (.meter m .estimated) else s.flags
        accounts := { s.accounts with
          meters := s.accounts.meters.set m ((s.meter m).endInterval c)
          btu := s.accounts.btu.set m (creditBtu c.credited (s.settings.cv.get m) (s.accounts.btu.get m))
          day := s.accounts.day.map fun d =>
            { d with accounts := d.accounts.set m ((d.accounts.get m).post c therms slot) } } } := by
  intro c therms
  unfold State.creditMeter
  change (if c.estimated then _ else _) = _
  split <;> rfl

/-- The credit of one meter leaves the ledger of every other. -/
theorem State.ledger_creditMeter_other {m n : MeterId} (hn : n ≠ m) (s : State) :
    (s.creditMeter baro time slot n).ledger m = s.ledger m := by
  rw [State.creditMeter_eq]
  simp only [State.ledger, State.meter, MeterTable.get_set_other _ _ hn.symm, Option.map_map, Function.comp_def, Ledger.mk.injEq, true_and]
  split
  · simp [StickyFlags.get_on, hn.symm]
  · rfl

/-- The ledger of a meter after its own credit (R120). -/
theorem State.ledger_creditMeter_same (m : MeterId) (s : State) :
    let c := s.creditOf baro time m
    (s.creditMeter baro time slot m).ledger m =
      { settings := s.settings
        meter := (s.meter m).endInterval c
        btu := creditBtu c.credited (s.settings.cv.get m) (s.accounts.btu.get m)
        account := (s.accounts.day.map fun d => d.accounts.get m).map fun a =>
          a.post c (creditTherms c.credited (s.settings.cv.get m) (s.accounts.btu.get m)) slot
        estimated := c.estimated || s.flags.get (.meter m .estimated) } := by
  simp only [State.creditMeter_eq, State.ledger, State.meter, MeterTable.get_set_same, Option.map_map, Function.comp_def,
    Ledger.mk.injEq, true_and]
  cases (s.creditOf baro time m).estimated <;> simp [StickyFlags.get_on]

/-- A credit is made from the settings and the meter's own record. -/
theorem State.creditOf_congr {m : MeterId} {s t : State} (settings : t.settings = s.settings) (meter : t.meter m = s.meter m) :
    t.creditOf baro time m = s.creditOf baro time m := by
  simp only [State.creditOf, State.creditInputs, settings, meter]

/-- What a credit makes of a meter's ledger depends on that ledger alone. -/
theorem State.ledger_creditMeter_congr {m : MeterId} {s t : State} (h : t.ledger m = s.ledger m) :
    (t.creditMeter baro time slot m).ledger m = (s.creditMeter baro time slot m).ledger m := by
  obtain ⟨settings, meter, btu, account, estimated⟩ := Ledger.mk.inj h
  simp only [State.ledger_creditMeter_same, State.creditOf_congr baro time settings meter, settings, meter, btu, account, estimated]

end

/-! ### The interval end (R119, R120) -/

/-- No ledger holds the barometer's gathering or the mark of one. -/
theorem State.ledger_barometer (m : MeterId) (b : Barometer) (gathered : Bool) (s : State) :
    ({ s with accounts := { s.accounts with barometer := b, gathered := gathered } } : State).ledger m = s.ledger m := rfl

/-- After the six credits each meter's ledger is as its own credit leaves it. -/
theorem State.ledger_creditAll (time : ClockTime) (slot : Fin 24) (m : MeterId) (s : State) :
    (s.creditAll time slot).ledger m = (s.creditMeter s.accounts.barometer.interval time slot m).ledger m := by
  rw [State.creditAll, State.ledger_barometer]
  exact forEach_own (State.ledger m) (MeterId.mem_all m) (by decide) (fun _ hn => State.ledger_creditMeter_other _ time slot hn)
    (fun _ _ => State.ledger_creditMeter_congr _ time slot) s

/-- The six credits touch the accounts and the flags alone, end the barometer's interval and leave the closed-day record. -/
theorem State.creditAll_rest (time : ClockTime) (slot : Fin 24) (s : State) :
    ∃ A F, s.creditAll time slot = { s with accounts := A, flags := F } ∧
      A.barometer = s.accounts.barometer.endInterval ∧ A.closed = s.accounts.closed := by
  have credits : ∃ A F, forEach MeterId.all (State.creditMeter s.accounts.barometer.interval time slot) s =
      { s with accounts := A, flags := F } ∧ A.closed = s.accounts.closed := by
    refine forEach_keeps (fun t => ∃ A F, t = { s with accounts := A, flags := F } ∧ A.closed = s.accounts.closed) _ _ ?_ s
      ⟨s.accounts, s.flags, rfl, rfl⟩
    rintro m - t ⟨A, F, rfl, closed⟩
    exact ⟨_, _, State.creditMeter_eq .., closed⟩
  obtain ⟨A, F, e, closed⟩ := credits
  exact ⟨{ A with barometer := s.accounts.barometer.endInterval, gathered := false }, F, by rw [State.creditAll, e], rfl, closed⟩

theorem exec_intervalEnd (s : State) : exec .intervalEnd s = .next (s.event State.intervalEnd) := rfl

theorem State.intervalEnd_of_clock {s : State} {c : ClockTime} (hc : s.yard.clock = some c) :
    s.intervalEnd = s.creditAll c (slotBefore c.tod s.settings.startHour) := by
  have now : s.now = some c := hc
  rw [State.intervalEnd, now]

end Sys2Proof.Machine

open Sys2Proof Sys2Proof.Machine

/-- Settles O49: the meter's record, residue, account and flag are read off its ledger, which its own credit alone writes. -/
theorem intervalEndCreditsEveryMeter : Obligations.IntervalEndCreditsEveryMeter := by
  intro s c m live clock r i f credit
  have gauge := intervalValue_fst r.gaugeSum r.gaugeCount r.lastG s.settings.lineGauge
  have temperature := intervalValue_fst r.tempSum r.tempCount r.lastT s.settings.lineTemperature
  have barometer := intervalValue_fst s.accounts.barometer.sum s.accounts.barometer.count (s.accounts.barometer.value.map Prod.fst) 3000
  have estimated : i.estimated = (r.gaugeCount == 0 || r.tempCount == 0 || s.accounts.barometer.count == 0) := by
    simp only [i, State.creditInputs, Barometer.interval, intervalValue_snd]
    rfl
  obtain ⟨A, F, rest, baro, closed⟩ := State.creditAll_rest c (slotBefore c.tod s.settings.startHour) s
  have ledger := (State.ledger_creditAll c (slotBefore c.tod s.settings.startHour) m s).trans (State.ledger_creditMeter_same ..)
  rw [rest] at ledger
  obtain ⟨-, meter, btu, account, flag⟩ := Ledger.mk.inj ledger
  refine ⟨{ s with accounts := A, flags := F }, ?_, congrArg MeterRec.residue meter, btu, congrArg MeterRec.pulses meter,
    congrArg MeterRec.saturated meter, congrArg MeterRec.gaugeCount meter, congrArg MeterRec.tempCount meter,
    congrArg MeterRec.gaugeSum meter, congrArg MeterRec.tempSum meter, congrArg Barometer.sum baro, congrArg MeterRec.lastCredit meter,
    congrArg Barometer.count baro, fun d hd => ?_, fun he => ?_, gauge, temperature, barometer, estimated,
    congrArg MeterRec.lastG meter, congrArg MeterRec.lastT meter, ?_, rfl, closed⟩
  · rw [exec_intervalEnd, State.event_live live, State.intervalEnd_of_clock clock, rest]
  · rw [hd] at account
    obtain ⟨e, he, posted⟩ := Option.map_eq_some_iff.mp account
    refine ⟨e, he, ?_⟩
    change e.accounts.get m = (d.accounts.get m).post _ _ _ at posted
    rw [posted]
    exact ⟨rfl, rfl, fun k => by rw [DayAccount.post_slots, slotBefore_val]; rfl, rfl, rfl, DayAccount.post_peak _ _ _ _⟩
  · exact flag.trans (by rw [show (s.creditOf _ c m).estimated = true from he, Bool.true_or])
  · exact (congrArg Barometer.value baro).trans (Barometer.endInterval_value _)
end

section
/-!
SUPPORT. The day close (chapter 7): the stocks taken at a snapshot, the peak hour, the record of the closed day, and the statement on the
day end.
-/
namespace Sys2Proof.Machine

/-! ### Stocks taken at a snapshot (R18, R125) -/

theorem State.setHolder_holder (s : State) (h : HolderId) : s.setHolder h (s.holder h) = s := by
  rw [State.setHolder, State.holder, HolderTable.set_get]

/-- A stock taken writes the holder's last stock where it can be had, and is no other change (R18). -/
theorem State.takeStock_eq (s : State) (h : HolderId) : s.takeStock h =
    s.setHolder h { s.holder h with lastStock := ((s.stock h).map fun k => ⟨k, s.now⟩).or (s.holder h).lastStock } := by
  obtain ⟨none', e⟩ | ⟨k, some', e⟩ := s.takeStock_cases h
  · rw [e, none']; exact (s.setHolder_holder h).symm
  · rw [e, some']; rfl

/-- The stock of a holder follows from the holder's own record, the settings and the barometer. -/
theorem State.stock_congr {s t : State} {h : HolderId} (outer : t.outer = s.outer) (holder : t.holder h = s.holder h) :
    t.stock h = s.stock h := by
  obtain ⟨settings, -, -, accounts, -, -⟩ := (State.outer_eq_iff _ _).mp outer
  simp only [State.stock, State.stockBarometer, State.holderSettings, settings, accounts, holder]

/-- Stocks taken touch the holders alone. -/
theorem State.takeStocks_rest (xs : List HolderId) (s : State) : ∃ H, forEach xs State.takeStock s = { s with holders := H } := by
  refine forEach_keeps (fun t => ∃ H, t = { s with holders := H }) _ _ ?_ s ⟨s.holders, rfl⟩
  rintro h - t ⟨H, rfl⟩
  exact ⟨_, State.takeStock_eq _ _⟩

/-- A holder among those whose stocks are taken keeps its own in its last stock, and any other holder stands. -/
theorem State.holder_takeStocks {xs : List HolderId} (distinct : xs.Nodup) (k : HolderId) (s : State) :
    (forEach xs State.takeStock s).holder k = { s.holder k with
      lastStock := if k ∈ xs then ((s.stock k).map fun n => ⟨n, s.now⟩).or (s.holder k).lastStock else (s.holder k).lastStock } := by
  have other (h : HolderId) (hk : h ≠ k) (t : State) : (t.takeStock h).holder k = t.holder k := by
    rw [State.takeStock_eq, State.holder_setHolder, if_neg hk.symm]
  have outer (h : HolderId) (t : State) : (t.takeStock h).outer = t.outer := by rw [State.takeStock_eq, State.outer_setHolder]
  split
  · next hk =>
    have own := forEach_own (fun t => (t.outer, t.holder k)) hk distinct (fun h hne t => Prod.ext (outer h t) (other h hne t))
      (fun t u e => ?_) s
    · exact (congrArg Prod.snd own).trans (by rw [State.takeStock_eq]; exact State.holder_setHolder_same _ _ _)
    · obtain ⟨o, r⟩ := Prod.mk.inj e
      obtain ⟨-, -, yard, -, -, -⟩ := (State.outer_eq_iff _ _).mp o
      refine Prod.ext ((outer k t).trans (o.trans (outer k u).symm)) ?_
      simp only [State.takeStock_eq, State.holder_setHolder_same, State.stock_congr o r, r, State.now, yard]
  · next hk => exact forEach_same (fun t => t.holder k) xs _ (fun h hh => other h (ne_of_mem_of_not_mem hh hk)) s

/-- What the last stock of each holder stands at once stocks are taken (R18). -/
theorem State.lastStock_takeStocks {xs : List HolderId} (distinct : xs.Nodup) (k : HolderId) (s : State) :
    ((forEach xs State.takeStock s).holder k).lastStock.map LastStock.stock =
      if k ∈ xs ∧ s.stock k ≠ none then s.stock k else (s.holder k).lastStock.map LastStock.stock := by
  rw [State.holder_takeStocks distinct]
  by_cases hk : k ∈ xs
  · cases s.stock k <;> simp [hk]
  · simp [hk]

/-! ### The snapshot (R125) -/

theorem State.mem_inService (s : State) (h : HolderId) : h ∈ s.inService ↔ (s.holderSettings h).service = .inService := by
  simp [State.inService, HolderId.mem_all]

theorem State.inService_nodup (s : State) : s.inService.Nodup := List.Pairwise.filter _ (by decide)

theorem State.closingStock_eq (s : State) (h : HolderId) : s.closingStock h = match s.stock h with
    | some k => k
    | none => ((s.holder h).lastStock.map LastStock.stock).getD 0 := by
  unfold State.closingStock
  cases s.stock h with
  | some k => rfl
  | none => cases (s.holder h).lastStock <;> rfl

theorem State.snapshotIncomplete_iff (s : State) :
    s.snapshotIncomplete = true ↔ ∃ h, (s.holderSettings h).service = .inService ∧ s.stock h = none := by
  simp [State.snapshotIncomplete, State.mem_inService]

/-! ### The peak hour (R127) -/

/-- Looking along a list in ascending order for a greater figure ends at the greatest, and at the first of equals. -/
theorem foldl_greatest (slots : Vector Nat 24) (xs : List (Fin 24)) (b : Fin 24) (ascending : (b :: xs).Pairwise (· ≤ ·)) :
    let p := xs.foldl (fun best i => if slots.get best < slots.get i then i else best) b
    ∀ k ∈ b :: xs, slots.get k ≤ slots.get p ∧ (k < p → slots.get k < slots.get p) := by
  induction xs generalizing b with
  | nil =>
    intro p k hk
    obtain rfl := List.mem_singleton.mp hk
    exact ⟨Nat.le_refl _, fun h => absurd h (Fin.lt_irrefl _)⟩
  | cons x xs ih =>
    obtain ⟨first, tail⟩ := List.pairwise_cons.mp ascending
    have hbx : b ≤ x := first x (List.mem_cons_self ..)
    rw [List.foldl_cons]
    by_cases h : slots.get b < slots.get x
    · rw [if_pos h]
      intro p k hk
      have best := ih x tail
      rcases List.mem_cons.mp hk with rfl | hk
      · have hx := (best x (List.mem_cons_self ..)).1
        exact ⟨Nat.le_of_lt (Nat.lt_of_lt_of_le h hx), fun _ => Nat.lt_of_lt_of_le h hx⟩
      · exact best k hk
    · rw [if_neg h]
      intro p k hk
      have best := ih b (List.pairwise_cons.mpr ⟨fun y hy => first y (List.mem_cons_of_mem _ hy), (List.pairwise_cons.mp tail).2⟩)
      obtain ⟨hb, hb'⟩ := best b (List.mem_cons_self ..)
      have hxb : slots.get x ≤ slots.get b := Nat.le_of_not_lt h
      rcases List.mem_cons.mp hk with rfl | hk
      · exact ⟨hb, hb'⟩
      · rcases List.mem_cons.mp hk with rfl | hk
        · exact ⟨Nat.le_trans hxb hb, fun hp => Nat.lt_of_le_of_lt hxb (hb' (Fin.lt_of_le_of_lt hbx hp))⟩
        · exact best k (List.mem_cons_of_mem _ hk)

/-- The peak hour has the greatest figure of the day, and every hour before it less (R127). -/
theorem peakHour_greatest (slots : Vector Nat 24) (k : Fin 24) :
    slots.get k ≤ slots.get (peakHour slots) ∧ (k < peakHour slots → slots.get k < slots.get (peakHour slots)) :=
  foldl_greatest slots (List.finRange 24) 0
    (List.pairwise_cons.mpr ⟨fun _ _ => Fin.zero_le _, (List.pairwise_lt_finRange 24).imp Fin.le_of_lt⟩) k
    (List.mem_cons_of_mem _ (List.mem_finRange k))

/-! ### The day close (R125 to R128) -/

/-- The close of an open day takes the stocks of the snapshot, replaces the record and the open day, and sets OVERWRITTEN for a record not
taken. -/
theorem State.closeDay_of_day {s : State} {d : DayRec} (hd : s.accounts.day = some d) (time : ClockTime) (jump : Bool) (day : Nat)
    (opened : Opened) : ∃ F, (s.shows .day = true → F.get .overwritten = true) ∧ s.closeDay time jump day opened =
      { s with
        holders := (forEach s.inService State.takeStock s).holders
        flags := F
        accounts := { s.accounts with
          closed := some (s.closedRecord d time jump)
          day := some (DayRec.fresh day opened (some s.closeStock) (some time) s.snapshotIncomplete) } } := by
  obtain ⟨H, e⟩ := State.takeStocks_rest s.inService s
  simp only [State.closeDay, hd, e]
  split
  · exact ⟨_, fun _ => rfl, rfl⟩
  · next h => exact ⟨s.flags, fun h' => absurd h' h, rfl⟩

theorem DayRec.balance_of_openStock {d : DayRec} {o : Nat} (ho : d.openStock = some o) (close : Nat) :
    d.change close = some ((close : Int) - o) ∧ d.balance close = some ((d.make : Int) - d.sendOut - (close - o)) := by
  simp [DayRec.balance, DayRec.change, ho]

theorem DayRec.balance_of_no_openStock {d : DayRec} (ho : d.openStock = none) (close : Nat) :
    d.change close = none ∧ d.balance close = none := by
  simp [DayRec.balance, DayRec.change, ho]

/-- The account part of the closed-day record of a meter (R127). -/
theorem State.closedRecord_account (d : DayRec) (time : ClockTime) (jump : Bool) (s : State) (m : MeterId) :
    (s.closedRecord d time jump).accounts.get m = (d.accounts.get m).close (s.settings.cv.get m) := MeterTable.get_tabulate _ _

theorem DayRec.fresh_account (day : Nat) (opened : Opened) (stock : Option Nat) (time : Option ClockTime) (mark : Bool) (m : MeterId) :
    (DayRec.fresh day opened stock time mark).accounts.get m = .fresh := MeterTable.get_fill _ _

theorem exec_dayEnd (s : State) : exec .dayEnd s = .next (s.event State.dayEnd) := rfl

/-- A day end is the close of the open day at the clock's time under the next gas day's number (R172). -/
theorem State.dayEnd_of_clock {s : State} {c : ClockTime} (hc : s.yard.clock = some c) :
    s.dayEnd = (s.setClock ⟨nextGasDay c.day, c.tod⟩).closeDay ⟨nextGasDay c.day, c.tod⟩ false (nextGasDay c.day) .boundary := by
  have now : s.now = some c := hc
  rw [State.dayEnd, now]
  rfl

/-- The close of the open day at a day end; no stock depends on the clock. -/
theorem exec_dayEnd_of_day {s : State} {c : ClockTime} {d : DayRec} (live : s.yard.resetHeld = false) (hc : s.yard.clock = some c)
    (hd : s.accounts.day = some d) :
    let time : ClockTime := ⟨nextGasDay c.day, c.tod⟩
    ∃ F, (s.shows .day = true → F.get .overwritten = true) ∧ exec .dayEnd s = .next
      { s.setClock time with
        holders := (forEach s.inService State.takeStock (s.setClock time)).holders
        flags := F
        accounts := { s.accounts with
          closed := some (s.closedRecord d time false)
          day := some (DayRec.fresh time.day .boundary (some s.closeStock) (some time) s.snapshotIncomplete) } } := by
  intro time
  obtain ⟨F, overwritten, closed⟩ := State.closeDay_of_day (s := s.setClock time) hd time false time.day .boundary
  exact ⟨F, overwritten, by rw [exec_dayEnd, State.event_live live, State.dayEnd_of_clock hc, closed]; rfl⟩

end Sys2Proof.Machine

open Sys2Proof Sys2Proof.Machine

/-- Settles O51, field by field from the close of the open day. -/
theorem dayEndStrikesTheBalance : Obligations.DayEndStrikesTheBalance := by
  intro s c d live clock day
  obtain ⟨F, overwritten, ran⟩ := exec_dayEnd_of_day live clock day
  refine ⟨_, _, _, ran, rfl, rfl, rfl, rfl, rfl, rfl, rfl, rfl, rfl, fun o ho => DayRec.balance_of_openStock ho _, fun ho => ?_, rfl, rfl,
    s.snapshotIncomplete_iff, rfl, s.closingStock_eq, fun m => ?_, fun m => ?_, rfl, rfl, rfl, rfl, rfl, rfl, overwritten, rfl,
    fun k => ?_, fun k => ?_⟩
  · obtain ⟨change, balance⟩ := DayRec.balance_of_no_openStock ho s.closeStock
    exact ⟨change, balance, by simp [State.closedRecord, ho]⟩
  · rw [State.closedRecord_account]
    exact ⟨rfl, rfl, rfl, rfl, rfl, rfl, fun k => (peakHour_greatest _ k).1, fun k => (peakHour_greatest _ k).2⟩
  · rw [DayRec.fresh_account]
    exact ⟨rfl, rfl, fun k => Vector.getElem_replicate k.isLt, rfl, rfl, rfl⟩
  · have taken := State.holder_takeStocks s.inService_nodup k (s.setClock ⟨nextGasDay c.day, c.tod⟩)
    exact taken.trans (congrArg (fun r => { s.holder k with lastStock := r.lastStock }) taken).symm
  · refine (State.lastStock_takeStocks s.inService_nodup k (s.setClock ⟨nextGasDay c.day, c.tod⟩)).trans ?_
    simp only [State.mem_inService]
    rfl
end

section
/-!
SUPPORT. Readings held (chapters 1 and 8): a reading in its range and one out of it at the commands that take them, the opening snapshot
taken and not taken, and the statement on both.
-/
namespace Sys2Proof.Machine

/-! ### Readings in a range from 0 (R17, R141) -/

theorem validReading_of_le {hi v : Nat} {x : Option Int} (hx : x = some (v : Int)) (le : v ≤ hi) : validReading 0 hi x = some v :=
  (validReading_eq_some 0 hi x v).mpr ⟨hx, Nat.zero_le v, le⟩

theorem validReading_of_lt {hi : Nat} {x : Option Int} (beyond : ∀ v : Nat, x = some (v : Int) → hi < v) : validReading 0 hi x = none :=
  (validReading_eq_none 0 hi x).mpr fun v hx => .inr (beyond v hx)

/-! ### Holder temperatures (R17) -/

theorem exec_holderTemperatureReport {s : State} (live : s.yard.resetHeld = false) (h : HolderId) (x : Option Int) :
    exec (.holderTemperatureReport h x) s = .next (((validReading 0 120 x).map fun v =>
      (s.setHolder h { s.holder h with temperature := some v, temperatureAge := 0 }).openingSnapshot).getD s) := by
  refine congrArg Host.Outcome.next ((State.event_live live _).trans ?_)
  cases validReading 0 120 x <;> rfl

theorem exec_holderTemperatureStale {s : State} (live : s.yard.resetHeld = false) (h : HolderId) :
    exec (.holderTemperatureStale h) s = .next (s.setHolder h { s.holder h with temperature := none }) :=
  congrArg Host.Outcome.next (State.event_live live _)

/-! ### Far-point gauges (R141) -/

theorem exec_farPointGaugeReport {s : State} (live : s.yard.resetHeld = false) (d : DistrictId) (g : GaugeId) (x : Option Int) :
    exec (.farPointGaugeReport d g x) s = .next (((validReading 0 300 x).map fun v =>
      s.setDistrict d ((s.district d).takeGauge g v)).getD s) := by
  refine congrArg Host.Outcome.next ((State.event_live live _).trans ?_)
  cases validReading 0 300 x <;> rfl

/-! ### The opening snapshot (R123) -/

/-- Every IN-service holder has a stock, so that a snapshot would be complete (R123). -/
theorem State.stocks_complete_iff (s : State) : (s.inService.all fun h => (s.stock h).isSome) = true ↔
    ∀ h, (s.holderSettings h).service = .inService → s.stock h ≠ none := by
  simp [State.mem_inService, Option.isSome_iff_ne_none]

theorem State.openingSnapshot_untaken {s : State} (lacking : s.accounts.day = none ∨ (∃ e, s.accounts.day = some e ∧ e.openStock ≠ none) ∨
    ∃ k, (s.holderSettings k).service = .inService ∧ s.stock k = none) : s.openingSnapshot = s := by
  unfold State.openingSnapshot
  split
  · next d hd =>
    refine if_neg fun ⟨unopened, complete⟩ => ?_
    rcases lacking with closed | ⟨e, he, opened⟩ | ⟨k, inService, noStock⟩
    · cases closed.symm.trans hd
    · cases he.symm.trans hd
      exact opened (Option.isNone_iff_eq_none.mp unopened)
    · exact s.stocks_complete_iff.mp complete k inService noStock
  · rfl

/-- An opening snapshot taken writes the last stocks of the IN-service holders and the open stock with its time, and nothing else. -/
theorem State.openingSnapshot_taken {s : State} {e : DayRec} (hd : s.accounts.day = some e) (unopened : e.openStock = none)
    (complete : ∀ k, (s.holderSettings k).service = .inService → s.stock k ≠ none) : s.openingSnapshot =
      { s with
        holders := (forEach s.inService State.takeStock s).holders
        accounts := { s.accounts with
          day := some { e with openStock := some (s.inService.map fun k => (s.stock k).getD 0).sum, openStockTime := s.yard.clock } } } := by
  obtain ⟨H, rest⟩ := State.takeStocks_rest s.inService s
  have take := And.intro (Option.isNone_iff_eq_none.mpr unopened) (s.stocks_complete_iff.mpr complete)
  simp only [State.openingSnapshot, hd, if_pos take, rest]
  rfl

end Sys2Proof.Machine

open Sys2Proof Sys2Proof.Machine

/-- Settles O33: the readings by their range, the holders of a snapshot by the rule of the stocks taken. -/
theorem readingsAreHeld : Obligations.ReadingsAreHeld := by
  intro s h d x live
  have temperature := exec_holderTemperatureReport live h x
  have gauge (g : GaugeId) := exec_farPointGaugeReport live d g x
  refine ⟨fun v hx le => ?_, fun beyond => ?_, exec_holderTemperatureStale live h, fun v hx le => ?_, fun g beyond => ?_,
    State.openingSnapshot_untaken, fun e hd unopened complete => ?_⟩
  · rw [temperature, validReading_of_le hx le]
    rfl
  · rw [temperature, validReading_of_lt beyond]
    rfl
  · rw [gauge, gauge, validReading_of_le hx le]
    exact ⟨rfl, rfl⟩
  · rw [gauge, validReading_of_lt beyond]
    rfl
  · have holder (k : HolderId) := State.holder_takeStocks s.inService_nodup k s
    rw [State.openingSnapshot_taken hd unopened complete]
    refine ⟨rfl, fun k n inService stock => (holder k).trans ?_, fun k out => (holder k).trans ?_, rfl⟩
    · rw [if_pos ((s.mem_inService k).mpr inService), stock]
      rfl
    · have notIn : k ∉ s.inService := fun hk => by cases ((s.mem_inService k).mp hk).symm.trans out
      rw [if_neg notIn]
end

section
/-!
SUPPORT. The booster read (chapter 9): the request's meaning, its record with the queue's items spelt out, and that taking the line's
characters leaves the record; from them the statement on BOOSTER.
-/
namespace Sys2Proof.Machine

/-! ### BOOSTER (R166) -/

theorem exec_booster (args : List Text) (s : State) :
    exec (.booster args) s = .next (s.takeRequest boosterVerb args false (boosterAnswer args)) := rfl

/-- A read without words answers the record and leaves the state. -/
theorem boosterAnswer_read (s : State) : boosterAnswer [] s = .done false s.boosterData s := rfl

/-- The record is read off the booster and its settings, which the receiver does not touch. -/
@[simp] theorem State.boosterData_receive (s : State) (r : Receiver) : (s.receive r).boosterData = s.boosterData := by
  simp only [State.boosterData, State.receive_booster, State.receive_settings]

/-- The queue takes one item for each district in it, and the one item NONE where it is empty. -/
theorem queueItems_eq (q : List DistrictId) : queueItems q = if q = [] then [noneItem] else q.map DistrictId.name := by
  cases q with
  | nil => exact (if_pos rfl).symm
  | cons d ds => exact (if_neg (List.cons_ne_nil d ds)).symm

/-- The record stands in three parts: the items before the queue, the queue, and the items after it with the settings. -/
theorem State.boosterData_eq (s : State) : s.boosterData =
    [s.booster.state.name, item DistrictId.name s.booster.granted, item DistrictId.name s.booster.boosted,
      yesNo s.booster.withdrawalPending] ++
    (if s.booster.queue = [] then [noneItem] else s.booster.queue.map DistrictId.name) ++
    ([item decimal s.booster.timer, contactItem s.booster.contact, startItem s.booster.start, item DistrictId.name s.booster.selector,
      s.booster.state.causeItem] ++ s.settings.booster.items) := by
  rw [State.boosterData, queueItems_eq, List.append_assoc _ _ s.settings.booster.items]

end Sys2Proof.Machine

open Sys2Proof Sys2Proof.Machine

/-- Settles O14: the read is carried out with the state as it was, and its data are the record as received. -/
theorem boosterReadGivesTheRecord : Obligations.BoosterReadGivesTheRecord := by
  intro s live
  rw [exec_booster, State.takeRequest_done live (boosterAnswer_read _), State.boosterData_receive, State.boosterData_eq]
  rfl
end

section
/-!
SUPPORT. The receiver (chapter 11): what a received character is taken as, the receiver's table and the line end state by state, and the
check digits; from them the statements on the receiver and on the line end.
-/
namespace Sys2Proof.Machine

/-! ### The check digits (11.1, R182) -/

theorem hexValue_hexChar {n : Nat} (hn : n < 16) : hexValue (hexChar n) = some n := by
  have digits : ∀ k : Fin 16, hexValue (hexChar k) = some k.val := by decide
  exact digits ⟨n, hn⟩

/-- A character has a value only as the digit of that value. -/
theorem hexChar_of_hexValue {c : Char} {n : Nat} (hc : hexValue c = some n) : n < 16 ∧ hexChar n = c := by
  obtain ⟨hn, found, -⟩ := List.findIdx?_eq_some_iff_getElem.mp hc
  rw [hexChar, List.getD_eq_getElem?_getD, List.getElem?_eq_getElem hn, Option.getD_some]
  exact ⟨hn, eq_of_beq found⟩

theorem parseHexByte_hexByte (b : BitVec 8) : parseHexByte (hexByte b) = some b := by
  have hb := b.isLt
  simp only [parseHexByte, hexByte, hexValue_hexChar (show b.toNat / 16 < 16 by omega),
    hexValue_hexChar (show b.toNat % 16 < 16 by omega), Nat.div_add_mod, BitVec.ofNat_toNat, BitVec.setWidth_eq]

theorem hexByte_of_digits {x y : Nat} (hx : x < 16) (hy : y < 16) : hexByte (BitVec.ofNat 8 (16 * x + y)) = [hexChar x, hexChar y] := by
  have value : (BitVec.ofNat 8 (16 * x + y)).toNat = 16 * x + y := by rw [BitVec.toNat_ofNat]; omega
  rw [hexByte, value, show (16 * x + y) / 16 = x by omega, show (16 * x + y) % 16 = y by omega]

/-- A byte has one spelling: its two digits in capitals (R182). -/
theorem parseHexByte_eq_some_iff (ds : Text) (b : BitVec 8) : parseHexByte ds = some b ↔ ds = hexByte b := by
  refine ⟨fun h => ?_, fun h => h ▸ parseHexByte_hexByte b⟩
  unfold parseHexByte at h
  split at h
  · next c d =>
    split at h
    · next x y hc hd =>
      obtain ⟨hx, rfl⟩ := hexChar_of_hexValue hc
      obtain ⟨hy, rfl⟩ := hexChar_of_hexValue hd
      rw [← Option.some.inj h, hexByte_of_digits hx hy]
    · cases h
  · cases h

/-! ### Line ends (R182) -/

/-- A stuck line has at least two characters, each the same as its first. -/
theorem stuckText_iff (t : Text) : stuckText t = true ↔ 2 ≤ t.length ∧ ∀ c ∈ t, some c = t.head? := by
  cases t with
  | nil => simp [stuckText]
  | cons a rest =>
    cases rest with
    | nil => simp [stuckText]
    | cons b rest => simp [stuckText]

theorem not_stuckText_iff (t : Text) : ¬ stuckText t = true ↔ t.length < 2 ∨ ∃ c ∈ t, some c ≠ t.head? := by
  simp only [stuckText_iff, Classical.not_and_iff_not_or_not, Nat.not_le, Classical.not_forall, exists_prop, ne_eq]

theorem judge_text_stuck {t : Text} (stuck : stuckText t = true) : judge (.text t) = .discard .stuck := if_pos stuck

theorem judge_text_unstuck {t : Text} (unstuck : ¬ stuckText t = true) : judge (.text t) = .discard .star := if_neg unstuck

theorem judge_digits_good {t ds : Text} (good : ds = hexByte (checkSum t)) : judge (.digits t ds) = .accepted t :=
  if_pos ((parseHexByte_eq_some_iff _ _).mpr good)

theorem judge_digits_bad {t ds : Text} (bad : ds ≠ hexByte (checkSum t)) : judge (.digits t ds) = .discard .check :=
  if_neg (mt (parseHexByte_eq_some_iff _ _).mp bad)

/-- A line is being received, whose end is judged (R182). -/
def Receiver.inLine (r : Receiver) : Prop := r ≠ .idle ∧ r ≠ .skip

theorem Receiver.inLine_text (t : Text) : (Receiver.text t).inLine := ⟨Receiver.noConfusion, Receiver.noConfusion⟩

theorem Receiver.inLine_digits (t ds : Text) : (Receiver.digits t ds).inLine := ⟨Receiver.noConfusion, Receiver.noConfusion⟩

theorem State.takeEnd_idle {s : State} (hr : s.line.receiver = .idle) : s.takeEnd = s := by rw [State.takeEnd, hr]

theorem State.takeEnd_skip {s : State} (hr : s.line.receiver = .skip) : s.takeEnd = s.receive .idle := by rw [State.takeEnd, hr]

/-- What follows the judgement of a line: its discard, or its text taken (R182, R184). -/
def State.follow (j : Judgement) (s : State) : State :=
  match j with
  | .discard c => (s.receive .idle).discard c
  | .accepted text => s.takeText text

theorem State.follow_discard (s : State) (c : Discard) : s.follow (.discard c) = (s.receive .idle).discard c := rfl

theorem State.follow_accepted (s : State) (text : Text) : s.follow (.accepted text) = s.takeText text := rfl

section
variable {s : State} (inLine : s.line.receiver.inLine)
include inLine

/-- The end of a line: an OVERLAP while a reply is being sent, and what follows the line's judgement otherwise (R182). -/
theorem State.takeEnd_inLine : s.takeEnd =
    if s.line.reply.isSome then (s.receive .idle).discard .overlap else s.follow (judge s.line.receiver) := by
  obtain ⟨notIdle, notSkip⟩ := inLine
  cases hr : s.line.receiver with
  | idle => exact absurd hr notIdle
  | skip => exact absurd hr notSkip
  | text t => rw [State.takeEnd, hr]; rfl
  | digits t ds => rw [State.takeEnd, hr]; rfl

theorem State.takeEnd_overlap (sending : s.line.reply.isSome = true) : s.takeEnd = (s.receive .idle).discard .overlap := by
  rw [State.takeEnd_inLine inLine, if_pos sending]

theorem State.takeEnd_judged (quiet : s.line.reply = none) {r : Receiver} (hr : s.line.receiver = r) :
    s.takeEnd = s.follow (judge r) := by
  rw [State.takeEnd_inLine inLine, quiet, hr]
  rfl

end

/-- A request is taken with the receiver back in IDLE, so returning it there first makes no difference (R182). -/
theorem State.takeRequest_receive {s : State} (live : s.yard.resetHeld = false) (r : Receiver) (verb : Text) (args : List Text)
    (isYard : Bool) (work : State → Answer) :
    (s.receive r).takeRequest verb args isYard work = s.takeRequest verb args isYard work := by
  have live' : (s.receive r).yard.resetHeld = false := live
  rw [State.takeRequest, State.takeRequest, live, live']
  rfl

theorem State.takeText_receive {s : State} (live : s.yard.resetHeld = false) (r : Receiver) (text : Text) :
    (s.receive r).takeText text = s.takeText text := by
  unfold State.takeText
  split
  · exact State.takeRequest_receive live ..
  · exact State.takeRequest_receive live ..

/-! ### Characters in each state (R181) -/

section
variable {s : State} (c : Char)

theorem State.takeCharacter_idle (hr : s.line.receiver = .idle) : s.takeCharacter c = s.receive (.text [c]) := by
  rw [State.takeCharacter, hr]

/-- A text takes a character up to 72; at the 73rd it is dropped, STUCK where all are the same and LONG otherwise. -/
theorem State.takeCharacter_text {t : Text} (hr : s.line.receiver = .text t) : s.takeCharacter c =
    if t.length < 72 then s.receive (.text (t ++ [c]))
    else if t.all (· == c) then (s.receive .skip).discard .stuck
    else (s.receive .skip).discard .long := by
  have same : (t ++ [c]).all (· == c) = t.all (· == c) := by simp
  rw [State.takeCharacter, hr]
  simp only [same, apply_ite (State.discard · (s.receive .skip))]
  rfl

theorem State.takeCharacter_digits {t ds : Text} (hr : s.line.receiver = .digits t ds) : s.takeCharacter c =
    if ds.length < 2 then s.receive (.digits t (ds ++ [c])) else (s.receive .skip).discard .check := by
  rw [State.takeCharacter, hr]

theorem State.takeCharacter_skip (hr : s.line.receiver = .skip) : s.takeCharacter c = s.receive .skip := by
  rw [State.takeCharacter, hr]

end

/-! ### The class of a received character (R181) -/

theorem exec_characterReceived {s : State} (live : s.yard.resetHeld = false) (c : Byte) :
    exec (.characterReceived c) s = .next (s.character c) := congrArg Host.Outcome.next (State.event_live live _)

@[simp] theorem State.character_lf (s : State) : s.character 10#8 = s := rfl
@[simp] theorem State.character_cr (s : State) : s.character 13#8 = s.takeEnd := rfl
@[simp] theorem State.character_star (s : State) : s.character 42#8 = s.takeStar := rfl

theorem printable_iff (c : Byte) : printable c = true ↔ 32 ≤ c.toNat ∧ c.toNat ≤ 126 := by simp [printable]

theorem State.character_printable (s : State) {c : Byte} (low : 32 ≤ c.toNat) (high : c.toNat ≤ 126) (notStar : c ≠ 42#8) :
    s.character c = s.takeCharacter (Char.ofNat c.toNat) := by
  have notLf : c ≠ 10#8 := by rintro rfl; exact absurd low (by decide)
  have notCr : c ≠ 13#8 := by rintro rfl; exact absurd low (by decide)
  rw [State.character, if_neg notLf, if_neg notCr, if_neg notStar, if_pos ((printable_iff c).mpr ⟨low, high⟩)]

theorem State.character_unprintable (s : State) {c : Byte} (notLf : c ≠ 10#8) (notCr : c ≠ 13#8)
    (outside : c.toNat < 32 ∨ 126 < c.toNat) : s.character c = s.takeUnprintable := by
  have notStar : c ≠ 42#8 := by rintro rfl; exact absurd outside (by decide)
  have notPrintable : ¬ printable c = true := by rw [printable_iff]; omega
  rw [State.character, if_neg notLf, if_neg notCr, if_neg notStar, if_neg notPrintable]

end Sys2Proof.Machine

open Sys2Proof Sys2Proof.Machine

/-- Settles O5, class by class: the class of the character picks the row of the table, the receiver's state the entry. -/
theorem receiverTakesCharacters : Obligations.ReceiverTakesCharacters := by
  intro s c live
  rw [exec_characterReceived live]
  refine ⟨fun cr => ?_, fun lf => ?_, fun star => ?_, fun low high notStar => ?_, fun notLf notCr outside => ?_⟩
  · rw [cr, State.character_cr]
    cases hr : s.line.receiver with
    | idle => exact congrArg _ (State.takeEnd_idle hr)
    | text t => rfl
    | digits t ds => rfl
    | skip => exact congrArg _ (State.takeEnd_skip hr)
  · rw [lf, State.character_lf]
  · rw [star, State.character_star]
    rfl
  · rw [State.character_printable s low high notStar]
    cases hr : s.line.receiver with
    | idle => exact congrArg _ (State.takeCharacter_idle _ hr)
    | text t => exact congrArg _ (State.takeCharacter_text _ hr)
    | digits t ds => exact congrArg _ (State.takeCharacter_digits _ hr)
    | skip => exact congrArg _ (State.takeCharacter_skip _ hr)
  · rw [State.character_unprintable s notLf notCr outside]
    rfl

/-- Settles O6: an OVERLAP comes before the judgement, and the judgement of the line's text or digits gives the other four cases. -/
theorem lineEndIsJudged : Obligations.LineEndIsJudged := by
  intro s t ds live
  rw [exec_characterReceived live, State.character_cr]
  have inText (hr : s.line.receiver = .text t) : s.line.receiver.inLine := hr ▸ Receiver.inLine_text t
  have inDigits (hr : s.line.receiver = .digits t ds) : s.line.receiver.inLine := hr ▸ Receiver.inLine_digits t ds
  refine ⟨fun hr => ?_, fun hr => ?_, fun hr sending => ?_, fun hr quiet long same => ?_, fun hr quiet unstuck => ?_,
    fun hr quiet bad => ?_, fun hr quiet good => ?_⟩
  · rw [State.takeEnd_idle hr]
  · rw [State.takeEnd_skip hr]
  · rw [State.takeEnd_overlap (hr.elim inText inDigits) sending]
  · rw [State.takeEnd_judged (inText hr) quiet hr, judge_text_stuck ((stuckText_iff t).mpr ⟨long, same⟩), State.follow_discard]
  · rw [State.takeEnd_judged (inText hr) quiet hr, judge_text_unstuck ((not_stuckText_iff t).mpr unstuck), State.follow_discard]
  · rw [State.takeEnd_judged (inDigits hr) quiet hr, judge_digits_bad bad, State.follow_discard]
  · rw [State.takeEnd_judged (inDigits hr) quiet hr, judge_digits_good good, State.follow_accepted, State.takeText_receive live]
end

section
/-!
SUPPORT. The sticky flags by group and the summary (chapter 11): what a clear of one group leaves of each flag, the summary bit by bit, and
from them the statements on GRP and CLR and on ATTN.
-/
namespace Sys2Proof.Machine

/-! ### The flags of a group (R188, R189) -/

theorem StickyFlags.get_clear (f : Flag) : StickyFlags.clear.get f = false := by
  cases f with
  | holder h f => cases h <;> cases f <;> rfl
  | valve h side f => cases h <;> cases side <;> cases f <;> rfl
  | order h f => cases h <;> cases f <;> rfl
  | path p f =>
    rw [StickyFlags.get, StickyFlags.clear, PathTable.get_fill]
    cases f <;> rfl
  | district d f => cases d <;> cases f <;> rfl
  | meter m f => cases m <;> cases f <;> rfl
  | yard f => cases f <;> rfl
  | overflow | boosterFault | boosterGrant | overwritten => rfl

/-- A clear of a group resets each flag of the group and leaves each other one (R189): the record of each kind of flag stands in one
group's clause alone. -/
theorem StickyFlags.get_clearGroup (F : StickyFlags) (n : Fin 8) (f : Flag) :
    (F.clearGroup n).get f = if f.group = n then StickyFlags.clear.get f else F.get f := by
  match n with
  | 0 | 1 | 2 | 3 | 4 | 5 | 6 | 7 => cases f <;> rfl

theorem StickyFlags.get_clearGroup_eq (F : StickyFlags) (n : Fin 8) (f : Flag) :
    (F.clearGroup n).get f = (F.get f && f.group != n) := by
  rw [StickyFlags.get_clearGroup]
  split
  · next inGroup => rw [StickyFlags.get_clear, inGroup, bne_self_eq_false, Bool.and_false]
  · next outside => rw [bne_iff_ne.mpr outside, Bool.and_true]

/-- What GRP answers is read off parts that the receiver does not touch. -/
@[simp] theorem State.groupData_receive (s : State) (r : Receiver) (n : Fin 8) : (s.receive r).groupData n = s.groupData n := rfl

theorem parseGroup_of_parseNum {w : Text} {n : Fin 8} (hw : parseNum w = some n.val) : parseGroup [w] = some n := by
  simp only [parseGroup, hw, Option.bind_some, dif_pos n.isLt]

theorem parseGroup_eq_none {args : List Text} (bad : ∀ v m, args = [v] → parseNum v = some m → 7 < m) : parseGroup args = none := by
  unfold parseGroup
  split
  · next w =>
    refine Option.bind_eq_none_iff.mpr fun m hm => dif_neg ?_
    have := bad w m rfl hm
    omega
  · rfl

theorem exec_grp (args : List Text) (s : State) : exec (.grp args) s = .next (s.takeRequest grpVerb args false (grpAnswer args)) := rfl

theorem exec_clr (args : List Text) (s : State) : exec (.clr args) s = .next (s.takeRequest clrVerb args false (clrAnswer args)) := rfl

theorem grpAnswer_group {args : List Text} {n : Fin 8} (hp : parseGroup args = some n) (s : State) :
    grpAnswer args s = .done false (s.groupData n) s := by rw [grpAnswer, hp]

theorem clrAnswer_group {args : List Text} {n : Fin 8} (hp : parseGroup args = some n) (s : State) :
    clrAnswer args s = .done false (s.groupData n) { s with flags := s.flags.clearGroup n } := by rw [clrAnswer, hp]

theorem grpAnswer_badArgs {args : List Text} (hp : parseGroup args = none) (s : State) : grpAnswer args s = .refuse .ra := by
  rw [grpAnswer, hp]

theorem clrAnswer_badArgs {args : List Text} (hp : parseGroup args = none) (s : State) : clrAnswer args s = .refuse .ra := by
  rw [clrAnswer, hp]

/-! ### The summary and the output (R187, R190) -/

theorem State.groupSet_iff (s : State) (n : Fin 8) : s.groupSet n = true ↔ ∃ f ∈ groupFlags n, s.shows f = true := List.any_eq_true

/-- Bit n of the summary is that of group n (R187). -/
theorem State.summary_bit (s : State) (n : Fin 8) : s.summary.getLsbD n.val = s.groupSet n := by
  rw [State.summary, BitVec.getLsbD_ofBoolListLE]
  match n with
  | 0 | 1 | 2 | 3 | 4 | 5 | 6 | 7 => rfl

/-- Two bytes share a set bit exactly when their conjunction is not zero. -/
theorem and_ne_zero_iff {w : Nat} (x y : BitVec w) :
    x &&& y ≠ 0#w ↔ ∃ n : Fin w, x.getLsbD n.val = true ∧ y.getLsbD n.val = true := by
  rw [ne_eq, BitVec.zero_iff_eq_false, Classical.not_forall]
  simp only [BitVec.getLsbD_and, Bool.not_eq_false, Bool.and_eq_true]
  exact ⟨fun ⟨i, hx, hy⟩ => ⟨⟨i, BitVec.lt_of_getLsbD hx⟩, hx, hy⟩, fun ⟨n, hx, hy⟩ => ⟨n.val, hx, hy⟩⟩

/-- Released from RESET, the output follows the groups the mask names (R190). -/
theorem State.attn_iff {s : State} (live : s.yard.resetHeld = false) :
    s.attn = true ↔ ∃ n : Fin 8, s.line.mask.getLsbD n.val = true ∧ s.groupSet n = true := by
  rw [State.attn, live, Bool.not_false, Bool.true_and, bne_iff_ne, and_ne_zero_iff]
  simp only [State.summary_bit, and_comm]

theorem State.attn_resetHeld {s : State} (held : s.yard.resetHeld = true) : s.attn = false := by
  rw [State.attn, held, Bool.not_true, Bool.false_and]

theorem exec_attn (args : List Text) (s : State) : exec (.attn args) s = .next (s.takeRequest attnVerb args false (attnAnswer args)) :=
  rfl

theorem attnAnswer_mask {w : Text} {m : BitVec 8} (hw : parseHexByte w = some m) (s : State) :
    attnAnswer [w] s = .done false [hexByte s.line.mask] { s with line := { s.line with mask := m } } := by
  rw [attnAnswer, parseMask, hw]

theorem parseMask_eq_none {args : List Text} (bad : ∀ v, args = [v] → parseHexByte v = none) : parseMask args = none := by
  unfold parseMask
  split
  · exact bad _ rfl
  · rfl

theorem attnAnswer_badArgs {args : List Text} (hp : parseMask args = none) (s : State) : attnAnswer args s = .refuse .ra := by
  rw [attnAnswer, hp]

end Sys2Proof.Machine

open Sys2Proof Sys2Proof.Machine

/-- Settles O11: both requests by their block's answer, the clear flag by flag. -/
theorem clrClearsItsGroup : Obligations.ClrClearsItsGroup := by
  intro s w n listening hw
  have group := parseGroup_of_parseNum hw
  refine ⟨?_, ?_, s.flags.get_clearGroup_eq n, fun args bad => ?_⟩
  · rw [exec_grp, State.takeRequest_done listening (grpAnswer_group group _), State.groupData_receive]
  · rw [exec_clr, State.takeRequest_done listening (clrAnswer_group group _), State.groupData_receive, State.receive_flags]
  · have noGroup := parseGroup_eq_none bad
    rw [exec_grp, exec_clr, State.takeRequest_refuse listening (grpAnswer_badArgs noGroup _),
      State.takeRequest_refuse listening (clrAnswer_badArgs noGroup _)]
    exact ⟨rfl, rfl⟩

/-- Settles O12: the request by its block's answer, the output by the summary's bits. -/
theorem attnFollowsSummaryAndMask : Obligations.AttnFollowsSummaryAndMask := by
  intro s w m listening hw
  refine ⟨?_, ?_, fun u => State.attn_resetHeld, fun args bad => ?_⟩
  · rw [exec_attn, State.takeRequest_done listening (attnAnswer_mask hw _)]
    rfl
  · simp only [State.attn_iff listening.resetHigh, State.groupSet_iff]
  · rw [exec_attn, State.takeRequest_refuse listening (attnAnswer_badArgs (parseMask_eq_none bad) _)]
end
